-- ==== Sys2Proof/Word.lean ====
section
/-! DEFINITION. The plainest data of the unit: octets, identifiers, positions, timers (spec/00_scope.md 0.7). -/

namespace Sys2Proof

/-- One octet of a serial line (R177). -/
abbrev Octet := BitVec 8

/-- A coil or truck identifier as it was given, well-formed or not (0.7.5). -/
abbrev Ident := List Char

/-- A timer: stopped, or running with the time left. -/
abbrev Timer := Option Nat

/-- A run of zones, given by its west zone and its east zone (0.6). -/
abbrev Run := Nat × Nat

/-- A crane position: X along the runway and Y across the hall, in millimetres (0.7.2). -/
abbrev Pos := Int × Int

end Sys2Proof
end

