-- ==== Sys2Proof/Config.lean ====
section
/-! DEFINITION. What the unit fixes once: capacities of its tables, and the one value the spec leaves without a source. -/

namespace Sys2Proof

/-- Coil records the Coil Table can hold (R1). -/
def Config.coilCapacity : Nat := 2048

/-- Move records the Move Table can hold, live and ended together (R84). -/
def Config.moveCapacity : Nat := 24

/-- Live moves of one crane (R85). -/
def Config.queueCapacity : Nat := 8

/-- Host requests the weigh queue can hold (R124, R130). -/
def Config.hostWeighCapacity : Nat := 5

/-- The largest value of the arrival counters (R69, R124). -/
def Config.lastArrival : Nat := 65535

/-- The value at which dropped-frame and calibration counts stop (R55, R144, R177). -/
def Config.countStop : Nat := 65535

/-- The last X and Y read of a crane that holds none. FREE VALUE: the spec uses a crane's last position
(R93, R97, R99) only where one is present; nothing constrains what stands here. DESIGN CHOICE, see
notes/assumptions/5.md. -/
opaque Config.noPosition : Nat → Pos

end Sys2Proof
end

