-- ==== Sys2Proof/Syntax.lean ====
section
/-! DEFINITION. The commands the unit takes: one constructor of `Instr` for each row of spec/opcode_table.json, with the
operands its owning rule names, in the order the rule names them. -/

namespace Sys2Proof

/-! ### Operands of requests -/

/-- A place that a coil can be bound for or lie at: entry saddle, floor position, nest position or cradle (0.7.8). -/
inductive PlaceRef where
  | entry (saddle : Nat)
  | floor (row pos : Nat)
  | nest (row pos : Nat)
  | cradle (bay num : Nat)
deriving DecidableEq, Repr, Inhabited

/-- A floor or nest position, as PLACE names one (R42). -/
inductive StorePos where
  | floor (row pos : Nat)
  | nest (row pos : Nat)
deriving DecidableEq, Repr, Inhabited

/-- The place a store position is. -/
def StorePos.ref : StorePos → PlaceRef
  | .floor r g => .floor r g
  | .nest r u => .nest r u

/-- What PROBE names: a floor position, a nest position or an entry saddle, or a whole row (R40). -/
inductive ProbeTarget where
  | floor (row pos : Nat)
  | nest (row pos : Nat)
  | entry (saddle : Nat)
  | row (num : Nat)
deriving DecidableEq, Repr, Inhabited

/-- What BLOCK and UNBLOCK name: a place (a cradle among them) or a row (R41). -/
inductive BlockTarget where
  | place (p : PlaceRef)
  | row (num : Nat)
deriving DecidableEq, Repr, Inhabited

/-- The target of MOVE and RETARGET: a named place or cradle, or AUTO (R88, R107). -/
inductive MoveTarget where
  | named (p : PlaceRef)
  | auto
deriving DecidableEq, Repr, Inhabited

/-- What MOVES names: every move, one move, or one crane (R110). -/
inductive MovesTarget where
  | all
  | one (id : Nat)
  | crane (n : Nat)
deriving DecidableEq, Repr, Inhabited

/-- A weigh point (0.7.7). -/
inductive WeighPoint where
  | hoist (crane : Nat)
  | front (bay : Nat)
  | rear (bay : Nat)
deriving DecidableEq, Repr, Inhabited

/-- The fields an AMEND can name, each with its new value (R14). -/
structure AmendFields where
  recorded : Option Nat
  diameter : Option Nat
  width : Option Nat
  cls : Option Nat
  bearing : Option Bool
  hold : Option Bool
deriving DecidableEq, Repr, Inhabited

/-- One cradle of a truck: distance from the kingpin and maximum width (R165). -/
structure CradleDef where
  dist : Nat
  maxWidth : Nat
deriving DecidableEq, Repr, Inhabited

/-- A truck record (R165). -/
structure Truck where
  id : Ident
  /-- kingpin-to-bogie-centre Lb -/
  bogieDist : Nat
  cradles : List CradleDef
  /-- tractor wheelbase W -/
  wheelbase : Nat
  /-- fifth-wheel offset f -/
  fifthWheel : Nat
  /-- steer share s, in parts per thousand -/
  steerShare : Nat
  steerLimit : Nat
  driveLimit : Nat
  bogieLimit : Nat
  grossLimit : Nat
deriving DecidableEq, Repr, Inhabited

/-- One entry of a plan as the host gives it: a coil and a cradle number (R168, R169). -/
structure PlanItem where
  coil : Ident
  cradle : Nat
deriving DecidableEq, Repr, Inhabited

/-! ### The five sections of LAYOUT -/

/-- The kind of a zone (R62). -/
inductive ZoneKind where
  | store
  | entry
  | park
  | bay (num : Nat)
deriving DecidableEq, Repr, Inhabited

/-- The grant policy (R62, R75). -/
inductive Policy where
  | age
  | rotate
deriving DecidableEq, Repr, Inhabited

/-- One zone as the zone section gives it (R62). -/
structure ZoneDef where
  num : Nat
  start : Nat
  kind : ZoneKind
deriving DecidableEq, Repr, Inhabited

/-- The zone section (R62). -/
structure ZoneSection where
  length : Nat
  count : Nat
  policy : Option Policy
  zones : List ZoneDef
deriving DecidableEq, Repr, Inhabited

/-- One crane as the crane section gives it (R44). -/
structure CraneDef where
  num : Nat
  halfLength : Nat
  tare : Nat
deriving DecidableEq, Repr, Inhabited

/-- The crane section (R44). -/
structure CraneSection where
  count : Nat
  cranes : List CraneDef
deriving DecidableEq, Repr, Inhabited

/-- One row of the store section (R20). -/
structure RowDef where
  num : Nat
  x : Nat
  y0 : Nat
  pitch : Nat
  /-- floor position count n -/
  count : Nat
  nests : Bool
  /-- class mask, class 1 in the lowest bit (R186) -/
  classes : BitVec 8
  maxWidth : Nat
  maxDiameter : Nat
  floorLimit : Nat
  /-- bearing ratio q, in % -/
  bearing : Nat
  mismatch : Nat
  /-- nest penalty U -/
  penalty : Nat
deriving DecidableEq, Repr, Inhabited

/-- One entry saddle of the store section (R22). -/
structure SaddleDef where
  num : Nat
  x : Nat
  y : Nat
deriving DecidableEq, Repr, Inhabited

/-- The store section (R20, R22). -/
structure StoreSection where
  rows : List RowDef
  saddles : List SaddleDef
deriving DecidableEq, Repr, Inhabited

/-- One bay of the bay section (R150). -/
structure BayDef where
  num : Nat
  zone : Nat
  /-- kingpin reference X -/
  kingpin : Nat
  /-- +1 when the trailer extends east of the kingpin, −1 when it extends west -/
  dir : Int
  /-- trailer centreline Y -/
  y : Nat
deriving DecidableEq, Repr, Inhabited

/-- The six filter settings of a channel (R112). -/
structure ChanSettings where
  /-- precise order k -/
  order : Nat
  /-- precise decimation F -/
  decim : Nat
  /-- integration count I -/
  integ : Nat
  /-- shift h -/
  shift : Nat
  /-- fast order kf -/
  fastOrder : Nat
  /-- fast decimation Ff -/
  fastDecim : Nat
deriving DecidableEq, Repr, Inhabited

/-- One channel of the channel section (R112). -/
structure ChanDef where
  num : Nat
  cfg : ChanSettings
deriving DecidableEq, Repr, Inhabited

/-- The body of LAYOUT: from none to all of five sections (R180). -/
structure LayoutBody where
  zone : Option ZoneSection
  crane : Option CraneSection
  store : Option StoreSection
  bay : Option (List BayDef)
  channel : Option (List ChanDef)
deriving DecidableEq, Repr, Inhabited

/-- The settings of the table of R181, in the order they stand there. -/
inductive SettingKey where
  | freshness
  | tolerance
  | autoYield
  | stuckRun
  | overload
  | slack
  | arrivalThreshold
  | emptyThreshold
  | slackTime
  | settleTimeout
  | division (wp : WeighPoint)
  | window
  | band
  | allowance
  | ratio
  | arrivalTime
  | departureTime
  | bayAllowance
  | bayRatio
deriving DecidableEq, Repr, Inhabited

/-- One setting named by SETTINGS, with its value (R181). -/
structure SettingItem where
  key : SettingKey
  value : Nat
deriving DecidableEq, Repr, Inhabited

/-! ### Operands of line events -/

/-- Why a yard link frame is dropped (R177, R178). -/
inductive YardDrop where
  | checkFailed
  | bufferFull
deriving DecidableEq, Repr, Inhabited

/-- Why a crane link frame is dropped (R55). -/
inductive CraneDrop where
  | checkFailed
  | unreadable
deriving DecidableEq, Repr, Inhabited

/-- One of the four serial receivers (R177). -/
inductive LinkId where
  | yard
  | crane (link : Fin 3)
deriving DecidableEq, Repr, Inhabited

/-- The commands of the unit, one for each row of the table of operations and events. A request of the yard link carries
its sequence number first (R177) and then its body; crane links, channels, bay lines and engines are counted from 0 here
(link 0 is that of crane 1, line 0 that of bay 1, engine 0 is engine 1). -/
inductive Instr where
  -- POWER_ON_RESET (R183)
  | powerOnReset
  -- requests on coil records (chapter 1)
  | enter (seq : Nat) (id : Ident) (saddle weight diameter width cls : Nat) (bearing hold : Option Bool)
  | query (seq : Nat) (id : Ident)
  | amend (seq : Nat) (id : Ident) (fields : AmendFields)
  | retire (seq : Nat) (id : Ident)
  -- requests on the Store Map (chapter 2)
  | place (seq : Nat) (id : Ident) (pos : StorePos) (weight diameter width cls : Nat) (bearing hold : Option Bool)
  | find (seq : Nat) (id : Ident) (count : Option Nat)
  | probe (seq : Nat) (what : ProbeTarget)
  | block (seq : Nat) (what : BlockTarget)
  | unblock (seq : Nat) (what : BlockTarget)
  -- CRANE (chapter 3)
  | crane (seq : Nat) (num : Option Nat)
  -- requests on the Zone Arbiter (chapter 4)
  | shutZone (seq : Nat) (zone : Nat)
  | openZone (seq : Nat) (zone : Nat)
  | zones (seq : Nat) (zone : Option Nat)
  -- requests on the Move Table (chapter 5)
  | move (seq : Nat) (coil : Ident) (target : MoveTarget) (crane : Nat) (urgent : Option Bool)
  | park (seq : Nat) (crane x : Nat)
  | resume (seq : Nat) (id : Nat)
  | accept (seq : Nat) (id : Nat)
  | retarget (seq : Nat) (id : Nat) (target : Option MoveTarget)
  | abort (seq : Nat) (id : Nat)
  | moves (seq : Nat) (what : MovesTarget)
  | discard (seq : Nat) (id : Option Nat)
  -- requests on the Front End and the Weigh Engines (chapter 6)
  | clearChannel (seq : Nat) (channel : Nat)
  | clearCrane (seq : Nat) (crane : Nat)
  | peaks (seq : Nat) (point : Option WeighPoint)
  | weigh (seq : Nat) (point : WeighPoint)
  | weighResult (seq : Nat) (point : WeighPoint)
  | channels (seq : Nat)
  -- requests on the Calibration Store (chapter 7)
  | calibration (seq : Nat) (channel : Option Nat)
  | zero (seq : Nat) (point : WeighPoint)
  | span (seq : Nat) (point : WeighPoint) (mass : Nat)
  -- requests on the Bay Units (chapters 8 and 9)
  | unhold (seq : Nat) (bay : Nat)
  | dismiss (seq : Nat) (bay : Nat)
  | bay (seq : Nat) (num : Option Nat)
  | announce (seq : Nat) (bay : Nat) (truck : Truck) (plan : List PlanItem)
  | replan (seq : Nat) (bay : Nat) (plan : List PlanItem)
  -- requests on the port (chapter 10)
  | modeSetup (seq : Nat)
  | modeRun (seq : Nat)
  | layout (seq : Nat) (body : LayoutBody)
  | settings (seq : Nat) (items : List SettingItem)
  | restart (seq : Nat)
  | notices (seq : Nat)
  | ack (seq : Nat) (flags : BitVec 44)
  | enable (seq : Nat) (flags : BitVec 44)
  -- frames of the yard link that reach no block (R177, R178)
  | badRequest (seq type : Nat) (body : List Octet)
  | repeatedRequest
  | yardFrameDropped (cause : YardDrop)
  | frameGapTimeout (link : LinkId)
  -- frames of the crane links (chapters 3 and 5)
  | position (link : Fin 3) (x y : Int)
  | gripped (link : Fin 3) (move : Nat) (x y : Int)
  | lifted (link : Fin 3) (move : Nat) (x y : Int)
  | setDown (link : Fin 3) (move : Nat) (x y : Int)
  | opened (link : Fin 3) (move : Nat) (x y : Int)
  | craneFrameDropped (link : Fin 3) (cause : CraneDrop)
  | linkSend (link : Fin 3)
  | freshnessExpiry (link : Fin 3)
  -- channels, watches and engines (chapters 6 and 7)
  | noClock (channel : Fin 14)
  | stuck (channel : Fin 14)
  | fastUpdate (channel : Fin 14)
  | slack (link : Fin 3)
  | grossSample (point : WeighPoint)
  | settleTimeout (engine : Fin 4)
  -- bays (chapters 8 and 9)
  | arrivalTimer (bay : Fin 4)
  | departure (bay : Fin 4)
  | chockLine (bay : Fin 4) (high : Bool)
  | clearLine (bay : Fin 4) (high : Bool)
  -- the calibration switch (R145)
  | switchCloses
  | switchOpens
  -- one bit of a channel (R113), and the length check of a receiver (R177)
  | risingClockEdge (channel : Fin 14) (bit : Bool)
  | lengthNotAFrame (link : LinkId) (length : Nat)
deriving DecidableEq, Repr, Inhabited

end Sys2Proof
end

