-- ==== Sys2Proof/Decode.lean ====
section
/-! DEFINITION. Reading a command from a word numbered as spec/opcode_table.json numbers bits. No row of that table gives bits:
the commands come as frames, line changes and timer events, so no word spells one. -/

namespace Sys2Proof

/-- The command that a word spells by the table's bits: none, since no row gives bits. DESIGN CHOICE, notes/assumptions/4.md. -/
def decodeTableWord (_nbits _w : Nat) : Option Instr := none

end Sys2Proof
end

