-- ==== Sys2Proof/Machine/State.lean ====
section
/-! DEFINITION. Everything the unit holds: the records of its ten blocks (spec/00_scope.md 0.4), the outputs that are not a
plain function of them, and the queue of commands that wait. Plain data throughout. -/

namespace Sys2Proof.Machine

/-! ### Coil Table (chapter 1) -/

/-- A measured weight: value, crane and the calibration counts of its hoist's two channels (R6). -/
structure Measured where
  value : Nat
  crane : Nat
  countA : Nat
  countB : Nat
deriving DecidableEq, Repr, Inhabited

/-- The verification of a coil's weight (R7). -/
inductive Verification where
  | unverified
  | verified
  | mismatch
deriving DecidableEq, Repr, Inhabited

/-- The location of a coil (R5), and the source of a move (R84). -/
inductive Loc where
  | place (p : PlaceRef)
  | hook (crane : Nat)
  | astray (x y : Int)
deriving DecidableEq, Repr, Inhabited

/-- The allocation of a coil: a bay and the index of its plan entry, counted from 1 (R10). -/
structure Allocation where
  bay : Nat
  index : Nat
deriving DecidableEq, Repr, Inhabited

/-- A coil record (1.2). -/
structure Coil where
  id : Ident
  recorded : Nat
  measured : Option Measured
  verification : Verification
  diameter : Nat
  width : Nat
  cls : Nat
  bearing : Bool
  hold : Bool
  alloc : Option Allocation
  loc : Loc
  move : Option Nat
deriving DecidableEq, Repr, Inhabited

/-! ### Store Map (chapter 2) -/

/-- The five states of a place, with their parts (R25). -/
inductive PlaceState where
  | free
  | occupied (coil : Ident)
  | incoming (move : Nat) (coil : Ident)
  | outgoing (move : Nat) (coil : Ident)
  | vacated (move : Nat)
deriving DecidableEq, Repr, Inhabited

/-- A place or cradle: its state and its blocked mark (R25, R26, R166). -/
structure Place where
  state : PlaceState
  blocked : Bool
deriving DecidableEq, Repr, Inhabited

/-- A row: its layout fields, and its places from south (R20, R21). -/
structure Row where
  cfg : RowDef
  floors : List Place
  nests : List Place
deriving DecidableEq, Repr, Inhabited

/-- An entry saddle (R22). -/
structure Saddle where
  cfg : SaddleDef
  place : Place
deriving DecidableEq, Repr, Inhabited

/-- The Store Map: rows and saddles, each in order of number. -/
structure Store where
  rows : List Row
  saddles : List Saddle
deriving DecidableEq, Repr, Inhabited

/-! ### Crane Tracker (chapter 3) -/

/-- The tracking state of a crane (R46). -/
inductive Tracking where
  | unknown
  | tracking
  | lost
deriving DecidableEq, Repr, Inhabited

/-- The tongs (R46, R54). -/
inductive Tongs where
  | opened
  | closed
deriving DecidableEq, Repr, Inhabited

/-- The load of a crane (R46). -/
inductive Load where
  | free
  | loaded
  | resting
deriving DecidableEq, Repr, Inhabited

/-- The travel inhibit reason set (R58). -/
structure TravelReasons where
  setup : Bool
  unknown : Bool
  lost : Bool
  breach : Bool
  bay : Bool
deriving DecidableEq, Repr, Inhabited

/-- The raise inhibit reason set (R59). -/
structure RaiseReasons where
  overload : Bool
  fault : Bool
  strayGrip : Bool
deriving DecidableEq, Repr, Inhabited

/-- A travel window: west X and east X, or empty (R48). -/
abbrev Window := Option (Int × Int)

/-- A crane record (R46), with the slack timer the Front End keeps for it (R120). -/
structure Crane where
  num : Nat
  halfLength : Nat
  tare : Nat
  tracking : Tracking
  lastPos : Option Pos
  tongs : Tongs
  load : Load
  run : Option Run
  window : Window
  travel : TravelReasons
  raise : RaiseReasons
  liftPeak : Option Int
  fresh : Timer
  slack : Timer
deriving DecidableEq, Repr, Inhabited

/-- The kind of a move (R84). -/
inductive MoveKind where
  | carry
  | travel
deriving DecidableEq, Repr, Inhabited

/-- A message to a crane (R56). -/
inductive Message where
  | order (move : Nat) (kind : MoveKind) (source target : Pos) (window : Window)
  | window (window : Window)
  | cancel (move : Nat)
deriving DecidableEq, Repr, Inhabited

/-- A crane link: its dropped-frame count (R55), the message being sent with its sequence number, the messages that wait
(R56), the next sequence number (R177), and the octets of a frame received so far (R177). -/
structure Link where
  dropped : Nat
  sending : Option (Nat × Message)
  waiting : List Message
  nextSeq : Nat
  partialFrame : List Octet
deriving DecidableEq, Repr, Inhabited

/-! ### Zone Arbiter (chapter 4) -/

/-- The state of a zone (R65). -/
inductive ZoneState where
  | open
  | shutting
  | shut
deriving DecidableEq, Repr, Inhabited

/-- A zone record; its number is its place in the table, counted from 1 (R62, R65). -/
structure Zone where
  start : Nat
  kind : ZoneKind
  state : ZoneState
  owner : Option Nat
deriving DecidableEq, Repr, Inhabited

/-- The zone table (R62). -/
structure ZoneTable where
  length : Nat
  zones : List Zone
deriving DecidableEq, Repr, Inhabited

/-- An entry of the zone request list (R69). -/
structure ZoneEntry where
  crane : Nat
  move : Nat
  run : Option Run
  urgent : Bool
  carries : Bool
  arrival : Nat
deriving DecidableEq, Repr, Inhabited

/-- The Zone Arbiter. `examine` is the model's own: an examination is due in the present event (R74). -/
structure Arbiter where
  table : Option ZoneTable
  policy : Policy
  requests : List ZoneEntry
  nextArrival : Nat
  lastGranted : Nat
  examine : Bool
deriving DecidableEq, Repr, Inhabited

/-! ### Move Table (chapter 5) -/

/-- Who made a move (R84). -/
inductive Origin where
  | host
  | yield
deriving DecidableEq, Repr, Inhabited

/-- The state of a move (R84). -/
inductive MoveState where
  | queued
  | pending
  | zones
  | toSource
  | gripped
  | weighing
  | carrying
  | placed
  | travelling
  | held
  | ended
deriving DecidableEq, Repr, Inhabited

/-- Why a move is held (R84, R104). -/
inductive HoldReason where
  | mismatch
  | weighFault
  | unsettled
  | destUnfit
  | axleLimit
  | strayGrip
  | crossing
  | truckGone
deriving DecidableEq, Repr, Inhabited

/-- How a move ended (R84, R98). -/
inductive MoveOutcome where
  | done
  | returned
  | aborted
  | astray
  | dropped
deriving DecidableEq, Repr, Inhabited

/-- The target of a move: a place or cradle, or a runway X (R84). -/
inductive Target where
  | place (p : PlaceRef)
  | runway (x : Int)
deriving DecidableEq, Repr, Inhabited

/-- A move record (R84). `gripTaken` is the model's own: the tongs are CLOSED from a grip that R95 took for this move (R108). -/
structure Move where
  id : Nat
  kind : MoveKind
  origin : Origin
  crane : Nat
  urgent : Bool
  coil : Option Ident
  source : Option Loc
  target : Option Target
  autoTarget : Bool
  state : MoveState
  hold : Option HoldReason
  pendingMark : Bool
  offTarget : Bool
  liftX : Option Int
  liftPeak : Option Int
  outcome : Option MoveOutcome
  misfit : Bool
  gripTaken : Bool
deriving DecidableEq, Repr, Inhabited

/-- The Move Table. The queue of a crane is the sublist of its live moves, in the order of `recs` (R85). -/
structure MoveTable where
  recs : List Move
  lastId : Nat
deriving DecidableEq, Repr, Inhabited

/-! ### Load-Cell Front End and Calibration Store (chapters 6 and 7) -/

/-- Why a channel is in FAULT (R114). -/
inductive FaultCause where
  | stuck
  | noClock
deriving DecidableEq, Repr, Inhabited

/-- The state of a channel (R113). -/
inductive ChanState where
  | unconfigured
  | running
  | fault (cause : FaultCause)
deriving DecidableEq, Repr, Inhabited

/-- A sinc filter: the latest inputs of each running sum of the chain, newest first, and the bits counted from its start
(R133). -/
structure Sinc where
  stages : List (List Int)
  bits : Nat
deriving DecidableEq, Repr, Inhabited

/-- A channel record (R113, R135). `fastOut` and `stuckDue` are the model's own: filter outputs given and a stuck run
reached by a bit, each waiting for its own step (FAST_UPDATE, STUCK). -/
structure Channel where
  state : ChanState
  cfg : Option ChanSettings
  /-- the j of R135 -/
  scale : Nat
  runLength : Nat
  lastBit : Option Bool
  noClock : Timer
  fast : Sinc
  fastWeight : Option Int
  fastOut : List Int
  stuckDue : Bool
deriving DecidableEq, Repr, Inhabited

/-- Zero, span and calibration count of a channel (R144). -/
structure Calib where
  zero : Int
  span : Nat
  count : Nat
deriving DecidableEq, Repr, Inhabited

/-- A platform level (R122). -/
inductive Level where
  | none
  | low
  | mid
  | high
  | fault
deriving DecidableEq, Repr, Inhabited

/-! ### Weigh Engines (chapter 6) -/

/-- The purpose of a weigh request (R124). -/
inductive Purpose where
  | check
  | tare
  | place
  | read
  | zero
  | span
deriving DecidableEq, Repr, Inhabited

/-- Who wants a result (R124). -/
inductive Requester where
  | move (id : Nat)
  | bay (num : Nat)
  | host
deriving DecidableEq, Repr, Inhabited

/-- One precise sample of a channel through the stages of R134, R136 and R137. -/
structure ChanSample where
  raw : Int
  shifted : Int
  zeroed : Int
  weight : Int
  saturated : Bool
deriving DecidableEq, Repr, Inhabited

/-- A gross sample of a weigh point (R139, R140). -/
structure GrossSample where
  chans : List ChanSample
  gross : Int
  net : Int
  display : Int
  saturated : Bool
deriving DecidableEq, Repr, Inhabited

/-- The precise path of one channel in an engine: filter, integrator, and raw samples completed and not yet paired
(R133, R134). -/
structure Precise where
  filter : Sinc
  acc : Int
  outputs : Nat
  samples : List ChanSample
deriving DecidableEq, Repr, Inhabited

/-- What an engine holds while it runs a request: its number, the event of its start, the settle timer, the precise paths,
and the latest gross samples, newest first (R126, R141). -/
structure EngineRun where
  engine : Nat
  started : Nat
  settle : Timer
  paths : List Precise
  samples : List GrossSample
deriving DecidableEq, Repr, Inhabited

/-- A weigh request; RUNNING while `run` is present, WAITING otherwise (R124). -/
structure WeighRequest where
  point : WeighPoint
  purpose : Purpose
  requesters : List Requester
  mass : Nat
  preempted : Bool
  retry : Nat
  arrival : Nat
  run : Option EngineRun
deriving DecidableEq, Repr, Inhabited

/-- How a request ended (R128). -/
inductive WeighOutcome where
  | stable
  | unstable
  | saturated
  | fault
  | cancelled
  | switchClosed
deriving DecidableEq, Repr, Inhabited

/-- The verdict on a ZERO or SPAN (R148, R149). -/
inductive Verdict where
  | stored
  | wrongState
  | outOfRange
  | notStored
deriving DecidableEq, Repr, Inhabited

/-- What a STORED record carries: the new zero and count of each channel for a ZERO (R148), the one new span and the counts for a
SPAN (R149). -/
inductive StoredCalib where
  | zeros (zeros : List Int) (counts : List Nat)
  | span (span : Nat) (counts : List Nat)
deriving DecidableEq, Repr, Inhabited

/-- A result record (R128, R148, R149). `sample` holds the channel weights, gross, net and display value; `stored` is present in a
STORED record. -/
structure ResultRecord where
  point : WeighPoint
  purpose : Purpose
  outcome : WeighOutcome
  sample : Option GrossSample
  counts : List Nat
  retry : Nat
  mass : Nat
  verdict : Option Verdict
  stored : Option StoredCalib
deriving DecidableEq, Repr, Inhabited

/-- The record of a weigh point: peak and trough (R123), platform level (R122), host result slot and unread mark (R129). -/
structure Point where
  peak : Int
  trough : Int
  level : Level
  slot : Option ResultRecord
  unread : Bool
deriving DecidableEq, Repr, Inhabited

/-- A result on its way to a requester within the present event (model's own). -/
structure Delivery where
  requester : Requester
  result : ResultRecord
deriving DecidableEq, Repr, Inhabited

/-- The weigh queue in its order (R124). `event` counts the events that may start a request, so that starts can be told by
event (R127); `outbox` holds results to be handed on within the present event; both are the model's own.
DESIGN CHOICE, notes/assumptions/14.md. -/
structure WeighState where
  queue : List WeighRequest
  nextArrival : Nat
  event : Nat
  outbox : List Delivery
deriving DecidableEq, Repr, Inhabited

/-! ### Bay Units (chapters 8 and 9) -/

/-- The presence of a truck (R151). -/
inductive Presence where
  | empty
  | arriving
  | present
  | departing
deriving DecidableEq, Repr, Inhabited

/-- The phase of a bay (R155). -/
inductive Phase where
  | none
  | expecting
  | unannounced
  | taring
  | ready
  | loading
  | loaded
  | dismissed
deriving DecidableEq, Repr, Inhabited

/-- Why a bay is on hold (R160). -/
inductive BayHold where
  | planLimit
  | tareLimit
  | deviation
  | unsettled
  | platformFault
deriving DecidableEq, Repr, Inhabited

/-- The security of a bay (R156). -/
inductive Security where
  | open
  | chocked
  | secured
deriving DecidableEq, Repr, Inhabited

/-- The lamp of a bay (R158). -/
inductive Lamp where
  | off
  | stop
  | depart
deriving DecidableEq, Repr, Inhabited

/-- The status of a plan entry (R167). -/
inductive EntryStatus where
  | waiting
  | moving (move : Nat)
  | placed
deriving DecidableEq, Repr, Inhabited

/-- A plan entry (R167). -/
structure PlanEntry where
  coil : Ident
  cradle : Nat
  status : EntryStatus
deriving DecidableEq, Repr, Inhabited

/-- Predicted steer, drive and bogie loads (R171). -/
structure Prediction where
  steer : Int
  drive : Int
  bogie : Int
deriving DecidableEq, Repr, Inhabited

/-- The figure of a prediction that fails first (R173). -/
inductive AxleFigure where
  | steer
  | drive
  | bogie
  | gross
deriving DecidableEq, Repr, Inhabited

/-- The result of a plan check (R173). -/
inductive PlanResult where
  | passed
  | failed (entries : Nat) (figure : AxleFigure)
deriving DecidableEq, Repr, Inhabited

/-- A request a bay has placed on one of its platforms (R151). -/
structure Outstanding where
  purpose : Purpose
  retry : Nat
deriving DecidableEq, Repr, Inhabited

/-- A placement round: expected front and rear, band, and the nets it has received (R174). -/
structure Round where
  front : Int
  rear : Int
  band : Int
  frontNet : Option Int
  rearNet : Option Int
deriving DecidableEq, Repr, Inhabited

/-- A bay record (R150, R151, R165 to R167, R171, R173, R174). -/
structure Bay where
  cfg : BayDef
  presence : Presence
  frozen : Bool
  arrival : Timer
  departure : Timer
  phase : Phase
  hold : Option BayHold
  security : Security
  stale : Bool
  lamp : Lamp
  frontCandidate : Option Int
  rearCandidate : Option Int
  frontTare : Option Int
  rearTare : Option Int
  tareRetry : Bool
  frontRequest : Option Outstanding
  rearRequest : Option Outstanding
  truck : Option Truck
  cradles : List Place
  plan : List PlanEntry
  predicted : Option Prediction
  frontNet : Option Int
  rearNet : Option Int
  planCheck : Option PlanResult
  round : Option Round
deriving DecidableEq, Repr, Inhabited

/-- The CHOCK and CLEAR lines of a bay as taken (R156). -/
structure BayLines where
  chock : Bool
  clear : Bool
deriving DecidableEq, Repr, Inhabited

/-! ### Settings (R181) -/

/-- The adjustable parameters; times are in milliseconds, arrival and departure times in seconds. -/
structure Settings where
  freshness : Nat
  tolerance : Nat
  autoYield : Bool
  stuckRun : Nat
  overload : Nat
  slack : Nat
  arrivalThreshold : Nat
  emptyThreshold : Nat
  slackTime : Nat
  settleTimeout : Nat
  /-- one division for each weigh point, hoists first, then front and rear of each bay (0.7.7) -/
  divisions : List Nat
  window : Nat
  band : Nat
  allowance : Nat
  ratio : Nat
  arrivalTime : Nat
  departureTime : Nat
  bayAllowance : Nat
  bayRatio : Nat
deriving DecidableEq, Repr, Inhabited

/-! ### Yard Link Port (chapter 10) -/

/-- The mode of the unit (R179). -/
inductive Mode where
  | setup
  | run
deriving DecidableEq, Repr, Inhabited

/-- The status codes, in the order of their numbers (R178). -/
inductive Status where
  | ok
  | badRequest
  | wrongMode
  | badIdent
  | unknown
  | outOfRange
  | invalid
  | duplicate
  | tableFull
  | busy
  | allocated
  | unfit
  | axleLimit
  | wrongPlace
  | placeBusy
  | trapped
  | noPlace
  | noPosition
  | wrongCrane
  | onHook
  | urgentBusy
  | queueFull
  | bayState
  | onHold
  | coilHeld
  | planOrder
  | wrongState
  | overLimit
  | switchClosed
deriving DecidableEq, Repr, Inhabited

/-- The fields a refusal can name. -/
inductive FieldName where
  | saddle | weight | diameter | width | cls | count | crane | bay | cradle | zone | x | y | y0 | pitch | mask
  | maxWidth | maxDiameter | floorLimit | bearing | mismatch | penalty | length | start | kind | halfLength | tare
  | kingpin | direction | order | decimation | integration | shift | fastOrder | fastDecimation | scaling
  | bogieDistance | cradles | distance | wheelbase | fifthWheel | steerShare | steerLimit | driveLimit | bogieLimit
  | grossLimit | plan | channel | mass | target | number
deriving DecidableEq, Repr, Inhabited

/-- The kinds of numbered things a refusal can name. -/
inductive ItemKind where
  | zone | crane | row | saddle | bay | channel | cradle | entry
deriving DecidableEq, Repr, Inhabited

/-- The sections of the layout (R180). -/
inductive SectionName where
  | zone | crane | store | bay | channel
deriving DecidableEq, Repr, Inhabited

/-- The item a refusal names (R178). DEDUCED, notes/assumptions/26.md. -/
inductive Item where
  | field (f : FieldName)
  | thing (kind : ItemKind) (num : Nat) (f : Option FieldName)
  | part (name : SectionName)
  | coil (id : Ident)
  | floorPos (row pos : Nat)
  | setting (key : SettingKey)
deriving DecidableEq, Repr, Inhabited

/-- The data of a DEPARTURE notice: coils retired and the unauthorised mark (R162). -/
structure DepartureData where
  retired : Nat
  unauthorised : Bool
deriving DecidableEq, Repr, Inhabited

/-- A coil record as QUERY returns it (R13). -/
structure CoilView where
  coil : Coil
  reference : Nat
  present : Option (Nat × Nat)
  count : Nat
deriving DecidableEq, Repr, Inhabited

/-- A place as PROBE returns it (R40). -/
structure PlaceView where
  place : PlaceRef
  pos : Pos
  state : PlaceState
  blocked : Bool
  load : Option (Nat × Nat)
  supports : Option (PlaceState × PlaceState)
deriving DecidableEq, Repr, Inhabited

/-- A crane as CRANE returns it (R60). -/
structure CraneView where
  crane : Crane
  travelLine : Bool
  raiseLine : Bool
  head : Option (Nat × MoveState)
  dropped : Nat
deriving DecidableEq, Repr, Inhabited

/-- Why an entry of the request list waits (R82). -/
inductive Stop where
  | owned (zone crane : Nat)
  | shut (zone : Nat)
  | shutting (zone : Nat)
  | bayUnsecured (zone : Nat)
  | order (zone : Nat)
  | notTracking
  | noRun
deriving DecidableEq, Repr, Inhabited

/-- A zone as ZONES returns it (R82). -/
structure ZoneView where
  num : Nat
  start : Nat
  stop : Nat
  zone : Zone
deriving DecidableEq, Repr, Inhabited

/-- The state of a move's CHECK as MOVES returns it (R110, R185). -/
inductive CheckState where
  | none
  | waiting
  | running
deriving DecidableEq, Repr, Inhabited

/-- A move as MOVES returns it (R110, R185). -/
structure MoveView where
  move : Move
  queuePlace : Nat
  check : CheckState
  checkRetry : Nat
deriving DecidableEq, Repr, Inhabited

/-- A weigh point as PEAKS returns it (R123). -/
structure PeakView where
  point : WeighPoint
  peak : Int
  trough : Int
  sum : Option Int
deriving DecidableEq, Repr, Inhabited

/-- A channel as CHANNELS returns it (R131). -/
structure ChannelView where
  num : Nat
  state : ChanState
  cfg : Option ChanSettings
  scale : Nat
  stuckRun : Nat
  runLength : Nat
  fastWeight : Option Int
deriving DecidableEq, Repr, Inhabited

/-- A weigh request as CHANNELS returns it (R131); the test mass is present for a SPAN (R124). -/
structure RequestView where
  point : WeighPoint
  purpose : Purpose
  requesters : List Requester
  mass : Option Nat
  engine : Option Nat
  preempted : Bool
  retry : Nat
  arrival : Nat
  settle : Timer
deriving DecidableEq, Repr, Inhabited

/-- A bay as BAY returns it (R163). -/
structure BayView where
  bay : Bay
  frontLevel : Level
  rearLevel : Level
  lines : BayLines
deriving DecidableEq, Repr, Inhabited

/-- One setting as SETTINGS returns it (R181). -/
structure SettingView where
  key : SettingKey
  value : Nat
  clamped : Bool
deriving DecidableEq, Repr, Inhabited

/-- The data of a response (R178), each form named by the rule of its request. -/
inductive Data where
  | none
  | coil (view : CoilView)
  | count (n : Nat)
  | entries (n : Nat)
  | found (list : List (PlaceRef × Nat)) (total : Nat) (trapped : Bool)
  | place (view : PlaceView)
  | row (places : List PlaceView) (cfg : RowDef) (zone : Option ZoneState)
  | cranes (list : List CraneView)
  | zoneRecord (view : ZoneView)
  | zone (view : ZoneView) (entries : List (ZoneEntry × Option Stop))
  | zoneTable (length : Option Nat) (policy : Policy) (autoYield : Bool) (lastGranted : Nat) (zones : List ZoneView)
      (entries : List (ZoneEntry × Option Stop))
  | accepted (id : Nat) (target : Option PlaceRef) (queuePlace : Nat)
  | target (place : PlaceRef)
  | moves (list : List MoveView) (total : Option Nat)
  | overload (sum : Option Int) (threshold : Nat)
  | peaks (list : List PeakView)
  | queuePlace (n : Nat)
  | slot (record : Option ResultRecord) (unread : Bool)
  | channels (chans : List ChannelView) (points : List (WeighPoint × Option Int × Level)) (slack : List (Nat × Timer))
      (queue : List RequestView) (engines : List (Option Nat))
  | calibration (list : List (Nat × Calib)) (switchClosed : Bool)
  | phase (p : Phase)
  | planResult (r : Option PlanResult)
  | bays (list : List BayView)
  | layout (sections : LayoutBody)
  | settings (list : List SettingView)
  | notices (flags mask : BitVec 44) (departures : List (Option DepartureData)) (yardDropped : Nat)
      (craneDropped : List Nat)
  | flags (flags mask : BitVec 44)
deriving DecidableEq, Repr, Inhabited

/-- What the owner of a request answers: status, named item and data (R178). -/
structure Answer where
  status : Status
  item : Option Item
  data : Data
deriving DecidableEq, Repr, Inhabited

/-- A response: the answer and the attention mark (R178). -/
structure Response where
  answer : Answer
  attention : Bool
deriving DecidableEq, Repr, Inhabited

/-- The last request taken and its response (R178). -/
structure Kept where
  request : Instr
  response : Response
deriving DecidableEq, Repr, Inhabited

/-- The Yard Link Port: mode, notice flags in the order of R184, enable mask, DEPARTURE data, kept request, dropped-frame
count, the octets of a frame received so far (R177), and the response the latest yard link frame put on the line (model's
own output: none when it got no response). -/
structure Port where
  mode : Mode
  flags : BitVec 44
  mask : BitVec 44
  departures : List (Option DepartureData)
  kept : Option Kept
  dropped : Nat
  partialFrame : List Octet
  out : Option Response
deriving DecidableEq, Repr, Inhabited

/-! ### The whole state -/

/-- The state of the unit, and the queue of commands that wait, first in first out. DESIGN CHOICE, notes/assumptions/48.md. -/
structure State where
  coils : List Coil
  store : Store
  cranes : List Crane
  links : List Link
  arbiter : Arbiter
  moves : MoveTable
  channels : List Channel
  calib : List Calib
  points : List Point
  weigh : WeighState
  bays : List Bay
  lines : List BayLines
  switchClosed : Bool
  settings : Settings
  port : Port
  pending : List Instr
deriving DecidableEq, Repr, Inhabited

/-- Faults. The spec gives every command its effect in every state, so nothing the unit does ends in a fault: the type has
no value, and no step raises one (safe). -/
inductive Fault where
deriving DecidableEq, Repr

/-- Refusals. -/
inductive Refusal where
  /-- Raised by an arm of `exec` whose command has no meaning yet; no arm raises it in this model (safe). -/
  | notModelled (mnemonic : String)
deriving DecidableEq, Repr

/-! ### Reset values -/

/-- A channel after power-on: UNCONFIGURED, with no settings (R132). -/
def Channel.unconfigured : Channel :=
  { state := .unconfigured, cfg := none, scale := 0, runLength := 0, lastBit := none, noClock := none,
    fast := { stages := [], bits := 0 }, fastWeight := none, fastOut := [], stuckDue := false }

/-- A channel of a Calibration Store that has never been written (R144). DEDUCED, notes/assumptions/45.md. -/
def Calib.unwritten : Calib := { zero := 0, span := 65536, count := 0 }

/-- A weigh point after power-on (R122, R123, R129). -/
def Point.initial : Point := { peak := -250000, trough := 250000, level := .none, slot := none, unread := false }

/-- A crane link after power-on (R55, R177, R183). -/
def Link.initial : Link := { dropped := 0, sending := none, waiting := [], nextSeq := 0, partialFrame := [] }

/-- The settings at their defaults (R45, R80, R118, R140, R141, R142, R152, R175). -/
def Settings.defaults : Settings :=
  { freshness := 500, tolerance := 150, autoYield := true, stuckRun := 64, overload := 60000, slack := 1000,
    arrivalThreshold := 2000, emptyThreshold := 500, slackTime := 300, settleTimeout := 3000,
    divisions := List.replicate 3 10 ++ List.replicate 8 20, window := 4, band := 1, allowance := 200, ratio := 10,
    arrivalTime := 3, departureTime := 5, bayAllowance := 300, bayRatio := 20 }

/-- The port after power-on (R183). -/
def Port.initial : Port :=
  { mode := .setup, flags := 0, mask := 0, departures := List.replicate 4 none, kept := none, dropped := 0,
    partialFrame := [], out := none }

/-- The unit right after power-on reset, with a Calibration Store that has never been written (R19, R43, R61, R83, R111,
R132, R144, R164, R176, R183). -/
def State.reset : State :=
  { coils := []
    store := { rows := [], saddles := [] }
    cranes := []
    links := List.replicate 3 Link.initial
    arbiter := { table := none, policy := .age, requests := [], nextArrival := 1, lastGranted := 0, examine := false }
    moves := { recs := [], lastId := 0 }
    channels := List.replicate 14 Channel.unconfigured
    calib := List.replicate 14 Calib.unwritten
    points := List.replicate 11 Point.initial
    weigh := { queue := [], nextArrival := 1, event := 0, outbox := [] }
    bays := []
    lines := List.replicate 4 { chock := false, clear := false }
    switchClosed := true
    settings := Settings.defaults
    port := Port.initial
    pending := [] }

end Sys2Proof.Machine
end

