-- ==== Sys2Proof/Machine/Arith.lean ====
section
/-! DEFINITION. The arithmetic of chapter 7: rounding, clamping, the sinc filters, the two paths from bits to kilograms, and
the geometry of weigh points and channels (0.7.3, 0.7.7, R133 to R142). -/

namespace Sys2Proof

/-! ### Settings of a channel (R112, R135) -/

/-- I·F^k, the full scale of a raw sample. -/
def ChanSettings.fullScale (c : ChanSettings) : Nat := c.integ * c.decim ^ c.order

/-- Overflow condition of R135. -/
def ChanSettings.noOverflow (c : ChanSettings) : Bool := decide (c.fullScale ≤ 2 ^ 30)

/-- The number j of R135, where the scale condition holds. -/
def ChanSettings.scale? (c : ChanSettings) : Option Nat :=
  (List.range 31).find? (fun j => c.fullScale == c.fastDecim ^ c.fastOrder * 2 ^ (c.shift + j))

/-! ### Weigh points and channels (0.7.7) -/

/-- The channels of a weigh point. -/
def WeighPoint.channels : WeighPoint → List Nat
  | .hoist n => [2 * n - 2, 2 * n - 1]
  | .front b => [4 + 2 * b]
  | .rear b => [5 + 2 * b]

/-- Whether a weigh point names a crane 1 to 3 or a bay 1 to 4. -/
def WeighPoint.valid : WeighPoint → Bool
  | .hoist n => decide (1 ≤ n ∧ n ≤ 3)
  | .front b => decide (1 ≤ b ∧ b ≤ 4)
  | .rear b => decide (1 ≤ b ∧ b ≤ 4)

/-- The index of a weigh point in the order of 0.7.7, from 0. -/
def WeighPoint.index : WeighPoint → Nat
  | .hoist n => n - 1
  | .front b => 1 + 2 * b
  | .rear b => 2 + 2 * b

end Sys2Proof

namespace Sys2Proof.Machine

/-! ### Rounding and clamping -/

/-- `a / b` rounded to the nearest integer, halves away from zero (0.7.3); `b` is positive. -/
def roundDiv (a : Int) (b : Nat) : Int :=
  if 0 ≤ a then (2 * a + b) / (2 * b) else -((2 * (-a) + b) / (2 * b))

/-- `a / b` rounded half-out for a divisor of either sign, used where the sign is judged first (R149). -/
def roundDivInt (a b : Int) : Int :=
  if 0 ≤ b then roundDiv a b.toNat else roundDiv (-a) (-b).toNat

/-- `v` clamped to the nearer end of `lo … hi`. -/
def clampInt (lo hi v : Int) : Int := if v < lo then lo else if hi < v then hi else v

/-- `v` clamped to the nearer end of `lo … hi`, for settings (R181). -/
def clampNat (lo hi v : Nat) : Nat := if v < lo then lo else if hi < v then hi else v

/-- The weight limit of channels, sums and grosses, in kg (R117, R137, R139). -/
def weightLimit : Int := 250000

/-- A weight clamped to −250,000 … +250,000 kg. -/
def clampWeight (v : Int) : Int := clampInt (-weightLimit) weightLimit v

/-- Whether `a` and `b` lie within `tol` of one another. -/
def within (tol : Nat) (a b : Int) : Bool := decide ((a - b).natAbs ≤ tol)

/-- Whether two positions lie within `tol` of one another in X and in Y (R95, R97, R98). -/
def posWithin (tol : Nat) (a b : Pos) : Bool := within tol a.1 b.1 && within tol a.2 b.2

/-! ### Numbered lists (numbers run from 1) -/

/-- The item of number `k`, counted from 1. -/
def nth? {α : Type} (l : List α) : Nat → Option α
  | 0 => none
  | k + 1 => l[k]?

/-- The list with its item of number `k` changed by `f`. -/
def modifyNth {α : Type} (l : List α) (k : Nat) (f : α → α) : List α :=
  match k with
  | 0 => l
  | k + 1 => l.modify k f

/-! ### Sinc filters (R133) -/

/-- A filter of order `order` just started: every running sum is empty. -/
def Sinc.start (order : Nat) : Sinc := { stages := List.replicate order [], bits := 0 }

/-- One value through the chain: each running sum takes the value before it and gives the sum of its latest `decim`. The
second component is the last sum. -/
def Sinc.chain (decim : Nat) : List (List Int) → Int → List (List Int) × Int
  | [], v => ([], v)
  | st :: rest, v =>
    let st' := (v :: st).take decim
    let (rest', out) := Sinc.chain decim rest st'.sum
    (st' :: rest', out)

/-- One bit value into the filter, and its output when this bit gives one: at every `decim`-th bit from the start, once
every sum is filled. -/
def Sinc.push (order decim : Nat) (f : Sinc) (v : Int) : Sinc × Option Int :=
  let (stages, out) := Sinc.chain decim f.stages v
  let bits := f.bits + 1
  ({ stages := stages, bits := bits },
    if bits % decim = 0 ∧ order * decim ≤ bits then some out else none)

/-- The value of a bit: +1 for a one, −1 for a zero (R133). -/
def bitValue (bit : Bool) : Int := if bit then 1 else -1

/-! ### From samples to kilograms -/

/-- The channel weight of a zeroed value, before the clamp (R137, R138). -/
def spanWeight (n : Int) (span : Nat) : Int := roundDiv (n * span) 65536

/-- A raw sample through shift, zero and span (R136, R137). -/
def chanSample (raw : Int) (shift : Nat) (cal : Calib) : ChanSample :=
  let v := roundDiv raw (2 ^ shift)
  let n := v - cal.zero
  let w := spanWeight n cal.span
  { raw := raw, shifted := v, zeroed := n, weight := clampWeight w, saturated := decide (clampWeight w ≠ w) }

/-- The fast weight of a fast filter output (R138). -/
def fastWeightOf (out : Int) (scale : Nat) (cal : Calib) : Int :=
  clampWeight (spanWeight (out * 2 ^ scale - cal.zero) cal.span)

/-- The display value of a net (R140). -/
def displayValue (net : Int) (division : Nat) : Int := roundDiv net division * division

/-- The gross sample formed from one sample of each channel (R139, R140). -/
def grossSampleOf (chans : List ChanSample) (tare : Int) (division : Nat) : GrossSample :=
  let sum := (chans.map ChanSample.weight).sum
  let gross := clampWeight sum
  let net := gross - tare
  { chans := chans, gross := gross, net := net, display := displayValue net division,
    saturated := chans.any ChanSample.saturated || decide (gross ≠ sum) }

/-- Whether the latest samples (newest first) complete a stable window of `m` samples with band `band` (R141). -/
def stableWindow (m : Nat) (band : Int) (samples : List GrossSample) : Bool :=
  let latest := samples.take m
  decide (m ≤ samples.length) && latest.all (fun g => !g.saturated) &&
    latest.all (fun a => latest.all (fun b => decide (a.gross - b.gross ≤ band)))

/-- The checkweigh tolerance of a recorded weight (R142). -/
def checkTolerance (allowance ratio recorded : Nat) : Nat := max allowance (recorded * ratio / 1000)

/-- Verification by the comparison of R142 (R7). -/
def verify (allowance ratio recorded measured : Nat) : Verification :=
  if ((measured : Int) - recorded).natAbs ≤ checkTolerance allowance ratio recorded then .verified else .mismatch

/-! ### Weigh points (0.7.7) -/

/-- The weigh points in the order of 0.7.7. -/
def allPoints : List WeighPoint :=
  [.hoist 1, .hoist 2, .hoist 3, .front 1, .rear 1, .front 2, .rear 2, .front 3, .rear 3, .front 4, .rear 4]

/-- The weigh point of a channel. -/
def pointOfChannel (ch : Nat) : WeighPoint :=
  if ch < 6 then .hoist (ch / 2 + 1) else if ch % 2 = 0 then .front ((ch - 4) / 2) else .rear ((ch - 5) / 2)

end Sys2Proof.Machine
end

