-- ==== Sys2Proof/Machine/Flags.lean ====
section
/-! DEFINITION. The 44 notice flags with the attention line (R184), and the inhibit lines and lamps that follow from the
records (R57, R158). -/

namespace Sys2Proof.Machine

/-- The notice kinds with their units (R184). -/
inductive Notice where
  | moveEnded (crane : Nat)
  | moveHeld (crane : Nat)
  | conflict (crane : Nat)
  | protocol (crane : Nat)
  | craneState (crane : Nat)
  | breach (crane : Nat)
  | overload (crane : Nat)
  | channelFault (channel : Nat)
  | bayChange (bay : Nat)
  | departure (bay : Nat)
  | weighReady
deriving DecidableEq, Repr, Inhabited

/-- The place of a flag in the order of the table of R184, from 0. -/
def Notice.index : Notice → Nat
  | .moveEnded n => n - 1
  | .moveHeld n => 3 + (n - 1)
  | .conflict n => 6 + (n - 1)
  | .protocol n => 9 + (n - 1)
  | .craneState n => 12 + (n - 1)
  | .breach n => 15 + (n - 1)
  | .overload n => 18 + (n - 1)
  | .channelFault c => 21 + c
  | .bayChange b => 35 + (b - 1)
  | .departure b => 39 + (b - 1)
  | .weighReady => 43

/-- The set of flags that holds one flag alone. -/
def Notice.bit (k : Notice) : BitVec 44 := 1#44 <<< k.index

/-- Latches a flag; a flag already set stays set (R184). -/
def Port.raise (p : Port) (k : Notice) : Port := { p with flags := p.flags ||| k.bit }

/-- Latches a flag of the unit (R184). -/
def State.raise (s : State) (k : Notice) : State := { s with port := s.port.raise k }

/-- The attention line is asserted while a set flag is also in the enable mask (R184). -/
def Port.attention (p : Port) : Bool := p.flags &&& p.mask != 0

/-- Clears the named flags; the data of a DEPARTURE flag are cleared with it (R184). -/
def Port.ack (p : Port) (set : BitVec 44) : Port :=
  { p with
    flags := p.flags &&& ~~~set
    departures := p.departures.mapIdx (fun i d => if set.getLsbD (39 + i) then none else d) }

/-- A travel inhibit reason set is empty (R57). -/
def TravelReasons.isEmpty (r : TravelReasons) : Bool := !(r.setup || r.unknown || r.lost || r.breach || r.bay)

/-- A raise inhibit reason set is empty (R57). -/
def RaiseReasons.isEmpty (r : RaiseReasons) : Bool := !(r.overload || r.fault || r.strayGrip)

/-- The travel inhibit line of crane `n`: asserted while its set is not empty, and for a crane with no record
(R44, R57). -/
def State.travelLine (s : State) (n : Nat) : Bool :=
  match s.cranes.find? (fun c => c.num == n) with
  | some c => !c.travel.isEmpty
  | none => true

/-- The raise inhibit line of crane `n` (R44, R57). -/
def State.raiseLine (s : State) (n : Nat) : Bool :=
  match s.cranes.find? (fun c => c.num == n) with
  | some c => !c.raise.isEmpty
  | none => true

/-- The lamp that presence and phase give (R158). -/
def lampOf (presence : Presence) (phase : Phase) : Lamp :=
  match presence with
  | .empty => .off
  | _ => if phase = .dismissed then .depart else .stop

/-- The lamp output of bay `b`; OFF for a bay not defined (R158). -/
def State.lampLine (s : State) (b : Nat) : Lamp :=
  match s.bays.find? (fun x => x.cfg.num == b) with
  | some x => x.lamp
  | none => .off

end Sys2Proof.Machine
end

