-- ==== Sys2Proof/Machine/Ops.lean ====
section
/-! DEFINITION. Finding and changing the records of the unit, place by place: coils, places, cranes, links, moves, channels,
weigh points and bays. Every rule reads and writes the records through these. -/

namespace Sys2Proof.Machine

/-! ### Coils (R1) -/

/-- The record whose identifier equals the one named (R1). -/
def State.findCoil (s : State) (id : Ident) : Option Coil := s.coils.find? (fun c => c.id == id)

/-- The state with the record of a coil changed. -/
def State.updCoil (s : State) (id : Ident) (f : Coil → Coil) : State :=
  { s with coils := s.coils.map (fun c => if c.id = id then f c else c) }

/-- The reference weight of a coil (R8, 0.7.4). -/
def Coil.reference (c : Coil) : Nat :=
  match c.measured with
  | some m => m.value
  | none => c.recorded

/-- The coil whose location is the hook of crane `n` (R5). -/
def State.hookCoil (s : State) (n : Nat) : Option Coil := s.coils.find? (fun c => c.loc == .hook n)

/-! ### Bays -/

/-- The bay record of a number. -/
def State.findBay (s : State) (b : Nat) : Option Bay := s.bays.find? (fun x => x.cfg.num == b)

/-- The state with a bay record changed. The lamp follows presence and phase in the same event (R158). -/
def State.updBay (s : State) (b : Nat) (f : Bay → Bay) : State :=
  { s with bays := s.bays.map (fun x =>
      if x.cfg.num = b then let y := f x; { y with lamp := lampOf y.presence y.phase } else x) }

/-- The truck is tared while both its tares are present (R151). -/
def Bay.tared (x : Bay) : Bool := x.frontTare.isSome && x.rearTare.isSome

/-- A cradle of the truck standing in a bay (R165). -/
def Bay.cradleDef (x : Bay) (c : Nat) : Option CradleDef := x.truck.bind (fun t => nth? t.cradles c)

/-- The runway X of a cradle (R165). -/
def Bay.cradleX (x : Bay) (d : CradleDef) : Int := x.cfg.kingpin + x.cfg.dir * d.dist

/-! ### Rows, saddles and places (R21, R22, R166) -/

/-- The row of a number. -/
def State.findRow (s : State) (r : Nat) : Option Row := s.store.rows.find? (fun x => x.cfg.num == r)

/-- The saddle of a number. -/
def State.findSaddle (s : State) (n : Nat) : Option Saddle := s.store.saddles.find? (fun x => x.cfg.num == n)

/-- The place a reference names, where the layout (or the truck) defines it (R21, R22, R166). -/
def State.findPlace (s : State) : PlaceRef → Option Place
  | .entry n => (s.findSaddle n).map Saddle.place
  | .floor r g => (s.findRow r).bind (fun x => nth? x.floors g)
  | .nest r u => (s.findRow r).bind (fun x => nth? x.nests u)
  | .cradle b c => (s.findBay b).bind (fun x => nth? x.cradles c)

/-- The state with one place changed. -/
def State.updPlace (s : State) (p : PlaceRef) (f : Place → Place) : State :=
  match p with
  | .entry n =>
    { s with store := { s.store with
      saddles := s.store.saddles.map (fun x => if x.cfg.num = n then { x with place := f x.place } else x) } }
  | .floor r g =>
    { s with store := { s.store with
      rows := s.store.rows.map (fun x => if x.cfg.num = r then { x with floors := modifyNth x.floors g f } else x) } }
  | .nest r u =>
    { s with store := { s.store with
      rows := s.store.rows.map (fun x => if x.cfg.num = r then { x with nests := modifyNth x.nests u f } else x) } }
  | .cradle b c => s.updBay b (fun x => { x with cradles := modifyNth x.cradles c f })

/-- The state with the state of one place set; its blocked mark stays (R26). -/
def State.setPlace (s : State) (p : PlaceRef) (st : PlaceState) : State := s.updPlace p (fun x => { x with state := st })

/-- The coil on or bound for a place: that of an OCCUPIED, OUTGOING or INCOMING place (R27). -/
def PlaceState.coil? : PlaceState → Option Ident
  | .occupied c => some c
  | .incoming _ c => some c
  | .outgoing _ c => some c
  | .free => none
  | .vacated _ => none

/-- The live move a place state names. -/
def PlaceState.move? : PlaceState → Option Nat
  | .incoming m _ => some m
  | .outgoing m _ => some m
  | .vacated m => some m
  | .free => none
  | .occupied _ => none

/-- The X and Y of a place or cradle (R21, R22, R165). -/
def State.placePos (s : State) : PlaceRef → Option Pos
  | .entry n => (s.findSaddle n).map (fun x => ((x.cfg.x : Int), (x.cfg.y : Int)))
  | .floor r g => (s.findRow r).map (fun x => ((x.cfg.x : Int), (x.cfg.y0 : Int) + ((g : Int) - 1) * x.cfg.pitch))
  | .nest r u => (s.findRow r).map (fun x => ((x.cfg.x : Int), (x.cfg.y0 : Int) + (2 * (u : Int) - 1) * x.cfg.pitch / 2))
  | .cradle b c => (s.findBay b).bind (fun x => (x.cradleDef c).map (fun d => (x.cradleX d, (x.cfg.y : Int))))

/-! ### Cranes and links -/

/-- The crane record of a number. -/
def State.findCrane (s : State) (n : Nat) : Option Crane := s.cranes.find? (fun c => c.num == n)

/-- The state with a crane record changed. -/
def State.updCrane (s : State) (n : Nat) (f : Crane → Crane) : State :=
  { s with cranes := s.cranes.map (fun c => if c.num = n then f c else c) }

/-- The last X and Y of a crane; where it holds none, the spec states no position (a free value). -/
def State.lastPosOf (s : State) (n : Nat) : Pos :=
  ((s.findCrane n).bind Crane.lastPos).getD (Config.noPosition n)

/-- The state with the link of crane `n` changed. -/
def State.updLink (s : State) (n : Nat) (f : Link → Link) : State := { s with links := modifyNth s.links n f }

/-- Sends the front message of a link that has finished the earlier one, with the next sequence number (R56, R177). -/
def Link.sendNext (l : Link) : Link :=
  match l.waiting with
  | [] => { l with sending := none }
  | m :: rest => { l with sending := some (l.nextSeq, m), waiting := rest, nextSeq := (l.nextSeq + 1) % 256 }

/-- Whether a message is a WINDOW. -/
def Message.isWindow : Message → Bool
  | .window _ => true
  | _ => false

/-- The waiting messages with `m` placed: a WINDOW replaces a waiting WINDOW in its place in the order (R56). -/
def placeWaiting (waiting : List Message) (m : Message) : List Message :=
  if m.isWindow && waiting.any Message.isWindow then
    waiting.map (fun w => if w.isWindow then m else w)
  else
    waiting ++ [m]

/-- Places a message on a link: it waits only while the link is sending an earlier one (R56). DEDUCED, notes/assumptions/6.md. -/
def Link.place (l : Link) (m : Message) : Link :=
  let l' := { l with waiting := placeWaiting l.waiting m }
  if l.sending.isNone then l'.sendNext else l'

/-- Places a message on the link of crane `n` (R56). -/
def State.placeMessage (s : State) (n : Nat) (m : Message) : State := s.updLink n (fun l => l.place m)

/-- A dropped frame: the count rises by one and stops at 65,535 (R55, R177). -/
def bumpCount (n : Nat) : Nat := if n < Config.countStop then n + 1 else n

/-- Counts a dropped frame on the link of crane `n` (R55). -/
def State.dropCraneFrame (s : State) (n : Nat) : State := s.updLink n (fun l => { l with dropped := bumpCount l.dropped })

/-- Writes the travel inhibit reason set of crane `n`. -/
def State.updTravel (s : State) (n : Nat) (f : TravelReasons → TravelReasons) : State :=
  s.updCrane n (fun c => { c with travel := f c.travel })

/-- Writes the raise inhibit reason set of crane `n`. -/
def State.updRaise (s : State) (n : Nat) (f : RaiseReasons → RaiseReasons) : State :=
  s.updCrane n (fun c => { c with raise := f c.raise })

/-! ### Moves (R84, R85) -/

/-- A live move is one that has not ended. -/
def Move.live (m : Move) : Bool := m.state != .ended

/-- The move record of an identifier. -/
def State.findMove (s : State) (id : Nat) : Option Move := s.moves.recs.find? (fun m => m.id == id)

/-- The state with a move record changed. -/
def State.updMove (s : State) (id : Nat) (f : Move → Move) : State :=
  { s with moves := { s.moves with recs := s.moves.recs.map (fun m => if m.id = id then f m else m) } }

/-- The queue of a crane, from the head to the tail (R85). -/
def State.queue (s : State) (n : Nat) : List Move := s.moves.recs.filter (fun m => m.crane == n && m.live)

/-- The head move of a crane (R85). -/
def State.head (s : State) (n : Nat) : Option Move := (s.queue n).head?

/-- Whether a move is the head of its crane's queue. -/
def State.isHead (s : State) (m : Move) : Bool :=
  match s.head m.crane with
  | some h => h.id == m.id
  | none => false

/-- The place of a move in its crane's queue, 1 for the head, 0 for an ended move (R86, R185). -/
def State.queuePlace (s : State) (m : Move) : Nat :=
  if m.live then (s.queue m.crane).findIdx (fun x => x.id == m.id) + 1 else 0

/-- The coil record of a CARRY move. -/
def State.moveCoil (s : State) (m : Move) : Option Coil := m.coil.bind s.findCoil

/-- Whether the coil of a move hangs on, or is still gripped by, its crane (R5). -/
def State.onHook (s : State) (m : Move) : Bool :=
  match s.moveCoil m with
  | some c => c.loc == .hook m.crane
  | none => false

/-- The next identifier after the last assigned, skipping those in use (R84). -/
def State.nextMoveId (s : State) : Nat :=
  let candidates := (List.range 255).map (fun i => (s.moves.lastId + i) % 255 + 1)
  (candidates.find? (fun id => s.moves.recs.all (fun m => m.id != id))).getD 0

/-! ### Channels and weigh points -/

/-- The channel record of a number, 0 to 13. -/
def State.channel (s : State) (ch : Nat) : Channel := s.channels.getD ch Channel.unconfigured

/-- The state with a channel record changed. -/
def State.updChannel (s : State) (ch : Nat) (f : Channel → Channel) : State := { s with channels := s.channels.modify ch f }

/-- The calibration of a channel (R144). -/
def State.calibOf (s : State) (ch : Nat) : Calib := s.calib.getD ch Calib.unwritten

/-- The record of a weigh point. -/
def State.point (s : State) (wp : WeighPoint) : Point := s.points.getD wp.index Point.initial

/-- The state with the record of a weigh point changed. -/
def State.updPoint (s : State) (wp : WeighPoint) (f : Point → Point) : State :=
  { s with points := s.points.modify wp.index f }

/-- Whether a channel is RUNNING. -/
def State.running (s : State) (ch : Nat) : Bool := (s.channel ch).state == .running

/-- Whether a channel is in FAULT. -/
def Channel.faulted (c : Channel) : Bool :=
  match c.state with
  | .fault _ => true
  | _ => false

/-- Whether every channel of a weigh point is RUNNING. -/
def State.pointRunning (s : State) (wp : WeighPoint) : Bool := wp.channels.all s.running

/-- The fast sum of a weigh point: none while a channel is not RUNNING or has no fast weight (R117). -/
def State.fastSum (s : State) (wp : WeighPoint) : Option Int :=
  if s.pointRunning wp then
    (wp.channels.mapM (fun ch => (s.channel ch).fastWeight)).map (fun l => clampWeight l.sum)
  else none

/-- The division of a weigh point (R140). -/
def State.division (s : State) (wp : WeighPoint) : Nat := s.settings.divisions.getD wp.index 10

/-- The tare of a weigh point (R139). -/
def State.tareOf (s : State) : WeighPoint → Int
  | .hoist n => match s.findCrane n with | some c => c.tare | none => 0
  | .front b => match s.findBay b with | some x => if x.tared then x.frontTare.getD 0 else 0 | none => 0
  | .rear b => match s.findBay b with | some x => if x.tared then x.rearTare.getD 0 else 0 | none => 0

/-! ### Events -/

/-- A new event begins, as the order of starts of R127 counts them. -/
def State.beginEvent (s : State) : State := { s with weigh := { s.weigh with event := s.weigh.event + 1 } }

/-- An examination of the request list is due in this event (R74). DEDUCED, one for all its causes, notes/assumptions/82.md. -/
def State.wantExam (s : State) : State := { s with arbiter := { s.arbiter with examine := true } }

end Sys2Proof.Machine
end

