-- ==== Sys2Proof/Machine/Clock.lean ====
section
/-! DEFINITION. The passing of one millisecond: what the unit does while no command waits. Timers that run count down; what a
timer does when it runs out is a command of its own (FRESHNESS_EXPIRY, SLACK, SETTLE_TIMEOUT, ARRIVAL_TIMER, DEPARTURE).
DESIGN CHOICE, see notes/assumptions/2.md. -/

namespace Sys2Proof.Machine

/-- A timer one millisecond later: a stopped timer stays stopped, and one that has run down stays at 0. -/
def tickTimer (t : Timer) : Timer := t.map (fun k => k - 1)

/-- The timers of a crane one millisecond later (R52, R120). -/
def Crane.tick (c : Crane) : Crane := { c with fresh := tickTimer c.fresh, slack := tickTimer c.slack }

/-- The settle timer of a running request one millisecond later (R126). -/
def WeighRequest.tick (r : WeighRequest) : WeighRequest :=
  { r with run := r.run.map (fun e => { e with settle := tickTimer e.settle }) }

/-- The timers of a bay one millisecond later (R152, R153). -/
def Bay.tick (x : Bay) : Bay := { x with arrival := tickTimer x.arrival, departure := tickTimer x.departure }

/-- One millisecond passes. DESIGN CHOICE, notes/assumptions/2.md. DEDUCED, notes/assumptions/38.md. -/
def State.tick (s : State) : State :=
  { s with
    cranes := s.cranes.map Crane.tick
    weigh := { s.weigh with queue := s.weigh.queue.map WeighRequest.tick }
    bays := s.bays.map Bay.tick }

end Sys2Proof.Machine
end

