-- ==== Sys2Proof/Machine/Runway.lean ====
section
/-! DEFINITION. The runway: zones and runs, footprints, travel windows, ownership, what stops a zone request, and the BAY
reason (R47 to R49, R58, R62, R63, R70, R72, R75, R82). -/

namespace Sys2Proof.Machine

/-! ### Zones and positions -/

/-- The zones of a table with number, start s(z) and end t(z) (R47, R62). -/
def ZoneTable.spans (t : ZoneTable) : List (Nat × Int × Int) :=
  t.zones.zipIdx.map (fun zi =>
    (zi.2 + 1, (zi.1.start : Int), ((((t.zones[zi.2 + 1]?).map Zone.start).getD t.length : Nat) : Int)))

/-- The start s(z) of a zone. -/
def ZoneTable.startOf (t : ZoneTable) (z : Nat) : Int :=
  match t.spans.find? (fun p => p.1 == z) with
  | some p => p.2.1
  | none => 0

/-- The end t(z) of a zone. -/
def ZoneTable.stopOf (t : ZoneTable) (z : Nat) : Int :=
  match t.spans.find? (fun p => p.1 == z) with
  | some p => p.2.2
  | none => 0

/-- The zone a runway position lies in; the position L lies in the last zone (R63). -/
def ZoneTable.zoneAt (t : ZoneTable) (x : Int) : Option Nat :=
  if x = t.length then (t.spans.getLast?).map Prod.fst
  else (t.spans.find? (fun p => decide (p.2.1 ≤ x ∧ x < p.2.2))).map Prod.fst

/-- The zone record of a number. -/
def ZoneTable.zone? (t : ZoneTable) (z : Nat) : Option Zone := nth? t.zones z

/-- The run of a footprint with half-length `e` at bridge centre `x`; none where it has no zone (R47). -/
def ZoneTable.footprint (t : ZoneTable) (e : Nat) (x : Int) : Option Run :=
  let zs := (t.spans.filter (fun p => decide (p.2.1 < x + e ∧ x - e < p.2.2))).map Prod.fst
  match zs.head?, zs.getLast? with
  | some w, some v => some (w, v)
  | _, _ => none

/-- Whether a zone lies in a run. -/
def inRun (run : Option Run) (z : Nat) : Bool :=
  match run with
  | some (w, v) => decide (w ≤ z ∧ z ≤ v)
  | none => false

/-- The smallest run that holds two runs. -/
def hull (a b : Option Run) : Option Run :=
  match a, b with
  | none, r => r
  | r, none => r
  | some (w, v), some (w', v') => some (min w w', max v v')

/-- The part two runs have in common. -/
def meet (a b : Option Run) : Option Run :=
  match a, b with
  | some (w, v), some (w', v') => if max w w' ≤ min v v' then some (max w w', min v v') else none
  | _, _ => none

/-! ### Ownership (R65, R68, R73, R76, R78) -/

/-- A zone that loses its owner; a SHUTTING zone becomes SHUT (R68). -/
def Zone.release (z : Zone) : Zone :=
  { z with owner := none, state := if z.state = .shutting then .shut else z.state }

/-- The table after crane `n` has come to own exactly `run`: its zones outside the run lose their owner. -/
def ZoneTable.assign (t : ZoneTable) (n : Nat) (run : Option Run) : ZoneTable :=
  { t with zones := t.zones.mapIdx (fun i z =>
      if inRun run (i + 1) then { z with owner := some n }
      else if z.owner = some n then z.release else z) }

/-- Whether giving crane `n` exactly `run` takes a zone from it. -/
def ZoneTable.frees (t : ZoneTable) (n : Nat) (run : Option Run) : Bool :=
  t.zones.zipIdx.any (fun zi => zi.1.owner == some n && !inRun run (zi.2 + 1))

/-- Crane `n` comes to own exactly `run`: the Arbiter writes the zones, the Tracker the owned run (R46). -/
def State.assignRun (s : State) (n : Nat) (run : Option Run) : State :=
  let s := { s with arbiter := { s.arbiter with table := s.arbiter.table.map (fun (t : ZoneTable) => t.assign n run) } }
  s.updCrane n (fun c => { c with run := run })

/-- A release: as `assignRun`, and an examination follows where a zone is freed (R74, R76, R77). -/
def State.shrinkRun (s : State) (n : Nat) (run : Option Run) : State :=
  let freed := match s.arbiter.table with
    | some t => t.frees n run
    | none => false
  let s := s.assignRun n run
  if freed then s.wantExam else s

/-- Zone `z` lies east of every zone owned by a lower-numbered crane and west of every zone owned by a higher-numbered
one, counting the zones of `freed` as unowned (R51, R72, R80). -/
def ZoneTable.orderKept (t : ZoneTable) (n z : Nat) (freed : Option Nat) : Bool :=
  t.zones.zipIdx.all (fun yi =>
    match yi.1.owner with
    | none => true
    | some c =>
      if freed = some c then true
      else if c < n then decide (yi.2 + 1 < z)
      else if n < c then decide (z < yi.2 + 1)
      else true)

/-- Whether a bay stands in the way of a coil: a truck is there and is not SECURED (R58, R72). -/
def State.bayUnsafe (s : State) (b : Nat) : Bool :=
  match s.findBay b with
  | some x => x.presence != .empty && x.security != .secured
  | none => false

/-- The reasons other than an owner for which a zone fails the grant conditions: its state, the bay rule, and the order of
cranes (R72). -/
def State.openStop (s : State) (t : ZoneTable) (e : ZoneEntry) (freed : Option Nat) (z : Nat) (rec : Zone) : Option Stop :=
  match rec.state with
  | .shut => some (.shut z)
  | .shutting => some (.shutting z)
  | .open =>
    let unsecured := match rec.kind with
      | .bay b => e.carries && s.bayUnsafe b
      | _ => false
    if unsecured then some (.bayUnsecured z)
    else if t.orderKept e.crane z freed then none else some (.order z)

/-- Why zone `z` fails the grant conditions for an entry, if it does; the reasons in the order of R82, the zones of `freed`
counted as unowned (R72, R80, R82). DEDUCED, notes/assumptions/16.md. -/
def State.zoneStop (s : State) (t : ZoneTable) (e : ZoneEntry) (freed : Option Nat) (z : Nat) : Option Stop :=
  match t.zone? z with
  | none => some (.order z)
  | some rec =>
    let foreign := match rec.owner with
      | some c => if c = e.crane ∨ freed = some c then none else some c
      | none => none
    match foreign with
    | some c => some (.owned z c)
    | none => s.openStop t e freed z rec

/-- The numbers of the zones of a run, from west to east. -/
def Run.zones (r : Run) : List Nat := (List.range (r.2 + 1 - r.1)).map (fun i => r.1 + i)

/-- The first stop of a run from west to east (R82). -/
def State.runStop (s : State) (t : ZoneTable) (e : ZoneEntry) (freed : Option Nat) (r : Run) : Option Stop :=
  (Run.zones r).findSome? (s.zoneStop t e freed)

/-- Whether a crane is TRACKING. -/
def State.isTracking (s : State) (n : Nat) : Bool :=
  match s.findCrane n with
  | some c => c.tracking == .tracking
  | none => false

/-- The stop of an entry; none when it meets R72 (R72, R82). DEDUCED, NOT_TRACKING before NO_RUN, notes/assumptions/16.md. -/
def State.entryStop (s : State) (e : ZoneEntry) : Option Stop :=
  if !s.isTracking e.crane then some .notTracking
  else match e.run, s.arbiter.table with
    | some r, some t => s.runStop t e none r
    | _, _ => some .noRun

/-! ### Runs and order of the request list (R70, R75) -/

/-- The X and Y of a location (R93): a place, the crane's last position for a hook, or the astray X and Y. -/
def State.locPos (s : State) : Loc → Option Pos
  | .place p => s.placePos p
  | .hook n => (s.findCrane n).bind Crane.lastPos
  | .astray x y => some (x, y)

/-- The X of a move's target (R70). -/
def State.targetX (s : State) (m : Move) : Option Int :=
  match m.target with
  | some (.place p) => (s.placePos p).map Prod.fst
  | some (.runway x) => some x
  | none => none

/-- The X of a move's source, unless the source is a hook (R70, R76). -/
def State.sourceX (s : State) (m : Move) : Option Int :=
  match m.source with
  | some (.hook _) => none
  | some l => (s.locPos l).map Prod.fst
  | none => none

/-- The run of a request of crane `c` for move `m` (R70). -/
def State.runFor (s : State) (t : ZoneTable) (c : Crane) (m : Move) : Option Run :=
  let foot := fun (x : Option Int) => x.bind (t.footprint c.halfLength)
  hull (foot (c.lastPos.map Prod.fst)) (hull (foot (s.sourceX m)) (foot (s.targetX m)))

/-- The entry with its run computed again, if its crane is TRACKING (R70). -/
def State.refreshEntry (s : State) (e : ZoneEntry) : ZoneEntry :=
  match s.arbiter.table, s.findCrane e.crane, s.findMove e.move with
  | some t, some c, some m => if c.tracking = .tracking then { e with run := s.runFor t c m } else e
  | _, _, _ => e

/-- The place of a crane in the round of the ROTATE policy (R75). -/
def rotateKey (lastGranted crane : Nat) : Nat := (crane + 2 - lastGranted) % 3

/-- Whether entry `a` comes before entry `b` in the policy order (R75). -/
def Arbiter.before (arb : Arbiter) (a b : ZoneEntry) : Bool :=
  if a.urgent != b.urgent then a.urgent
  else match arb.policy with
    | .age => decide (a.arrival ≤ b.arrival)
    | .rotate => decide (rotateKey arb.lastGranted a.crane ≤ rotateKey arb.lastGranted b.crane)

/-- The entries in the policy order (R75). -/
def Arbiter.ordered (arb : Arbiter) (l : List ZoneEntry) : List ZoneEntry := l.insertionSort (fun a b => arb.before a b = true)

/-! ### Travel windows (R48, R49) -/

/-- The window of an owned run: s(w) + e to t(v) − e (R48). -/
def ZoneTable.runWindow (t : ZoneTable) (e : Nat) (r : Run) : Window :=
  let west := t.startOf r.1 + e
  let east := t.stopOf r.2 - e
  if west ≤ east then some (west, east) else none

/-- The lift X to which the window of a crane is narrowed: that of a head in WEIGHING, or HELD with its coil on the hook
(R48). DEDUCED, notes/assumptions/7.md. -/
def State.narrowing (s : State) (n : Nat) : Option Int :=
  match s.head n with
  | some h => if h.state = .weighing ∨ (h.state = .held ∧ s.onHook h) then h.liftX else none
  | none => none

/-- The part of a window within the tolerance of a lift X (R48). -/
def narrowWindow (w : Window) (x : Int) (tol : Nat) : Window :=
  match w with
  | none => none
  | some (west, east) =>
    let west := max west (x - tol)
    let east := min east (x + tol)
    if west ≤ east then some (west, east) else none

/-- The travel window of a crane (R48). -/
def State.windowOf (s : State) (c : Crane) : Window :=
  match s.arbiter.table, c.run with
  | some t, some r =>
    let w := t.runWindow c.halfLength r
    match s.narrowing c.num with
    | some x => narrowWindow w x s.settings.tolerance
    | none => w
  | _, _ => none

/-- Whether a bridge centre lies inside a window (R48). -/
def Window.holds (w : Window) (x : Int) : Bool :=
  match w with
  | some (west, east) => decide (west ≤ x ∧ x ≤ east)
  | none => false

/-- Judges an X of crane `n` against its window: outside adds BREACH, inside removes it; BREACH newly added raises its notice
(R49, R50). -/
def State.judgeBreach (s : State) (n : Nat) (x : Int) : State :=
  match s.findCrane n with
  | none => s
  | some c =>
    let outside := !Window.holds c.window x
    let s' := s.updTravel n (fun r => { r with breach := outside })
    if outside && !c.travel.breach then s'.raise (.breach n) else s'

/-- Stores a window of crane `n`, places WINDOW on its link, and judges the last X of a TRACKING crane again (R49). -/
def State.storeWindow (s : State) (n : Nat) (w : Window) : State :=
  let s := s.updCrane n (fun c => { c with window := w })
  let s := s.placeMessage n (.window w)
  match s.findCrane n with
  | some c =>
    match c.tracking, c.lastPos with
    | .tracking, some p => s.judgeBreach n p.1
    | _, _ => s
  | none => s

/-- Recomputes the window of crane `n`; a window with the same edges sends nothing (R49). -/
def State.refreshWindow (s : State) (n : Nat) : State :=
  match s.findCrane n with
  | some c => if s.windowOf c = c.window then s else s.storeWindow n (s.windowOf c)
  | none => s

/-! ### The BAY reason (R58) -/

/-- Whether the BAY reason holds a crane: its load is LOADED or RESTING, and a bay zone in its owned run belongs to a bay with
a truck that is not SECURED (R58). -/
def State.bayReason (s : State) (c : Crane) : Bool :=
  c.load != .free &&
    match s.arbiter.table with
    | some t => t.zones.zipIdx.any (fun zi =>
        inRun c.run (zi.2 + 1) && (match zi.1.kind with | .bay b => s.bayUnsafe b | _ => false))
    | none => false

/-- Judges BAY again for every crane (R58). -/
def State.judgeBays (s : State) : State :=
  { s with cranes := s.cranes.map (fun c => { c with travel := { c.travel with bay := s.bayReason c } }) }

end Sys2Proof.Machine
end

