-- ==== Sys2Proof/Machine/Operands.lean ====
section
/-! DEFINITION. What a request may name: the form of identifiers, the ranges of R4, and the records and places it names
(R3, R4, R21, R22). -/

namespace Sys2Proof.Machine

/-- A refusal with its status alone (R178). -/
def Answer.refuse (st : Status) : Answer := { status := st, item := none, data := .none }

/-- A refusal that names an item (R178). -/
def Answer.refuseItem (st : Status) (item : Item) : Answer := { status := st, item := some item, data := .none }

/-- OK with data (R178). -/
def Answer.ok (data : Data) : Answer := { status := .ok, item := none, data := data }

/-- An identifier has 1 to 10 characters of A to Z and 0 to 9 (0.7.5, R3). -/
def identOk (id : Ident) : Bool :=
  decide (1 ≤ id.length ∧ id.length ≤ 10) &&
    id.all (fun c => decide (65 ≤ c.toNat ∧ c.toNat ≤ 90) || decide (48 ≤ c.toNat ∧ c.toNat ≤ 57))

/-- The status that refuses a request naming a coil, if any: ill-formed, or not in the table (R3). -/
def State.coilRefusal (s : State) (id : Ident) : Option Status :=
  if !identOk id then some .badIdent
  else if (s.findCoil id).isNone then some .unknown
  else none

/-- Whether a value lies in a range, both ends included (0.7.9). -/
def inRange (lo hi v : Nat) : Bool := decide (lo ≤ v ∧ v ≤ hi)

/-- The first descriptive field out of its range (R4). -/
def fieldOutOfRange (weight diameter width cls : Nat) : Option FieldName :=
  if !inRange 500 45000 weight then some .weight
  else if !inRange 600 2400 diameter then some .diameter
  else if !inRange 500 2200 width then some .width
  else if !inRange 1 8 cls then some .cls
  else none

/-- The first field an AMEND names that is out of its range (R4, R14). -/
def amendOutOfRange (f : AmendFields) : Option FieldName :=
  fieldOutOfRange (f.recorded.getD 500) (f.diameter.getD 600) (f.width.getD 500) (f.cls.getD 1)

/-- A new coil record (R12, R42). -/
def newCoil (id : Ident) (weight diameter width cls : Nat) (bearing hold : Option Bool) (loc : Loc) : Coil :=
  { id := id, recorded := weight, measured := none, verification := .unverified, diameter := diameter, width := width,
    cls := cls, bearing := bearing.getD false, hold := hold.getD false, alloc := none, loc := loc, move := none }

/-- Whether a crane number is that of a defined crane (R44). -/
def State.craneDefined (s : State) (n : Nat) : Bool := (s.findCrane n).isSome

/-- The refusal of a crane number: out of range, or above the layout's crane count (R60, R88, R119). -/
def State.craneRefusal (s : State) (n : Nat) : Option Status :=
  if !inRange 1 3 n then some .outOfRange else if !s.craneDefined n then some .unknown else none

/-- The refusal of a bay number: out of range, or not defined (R160, R161, R163, R168). -/
def State.bayRefusal (s : State) (b : Nat) : Option Status :=
  if !inRange 1 4 b then some .outOfRange else if (s.findBay b).isNone then some .unknown else none

/-- The refusal of a zone number (R66, R67, R82). -/
def State.zoneRefusal (s : State) (z : Nat) : Option Status :=
  if !inRange 1 32 z then some .outOfRange
  else if ((s.arbiter.table).bind (fun t => t.zone? z)).isNone then some .unknown
  else none

/-- Runs `f` on the record where there is one, and refuses with UNKNOWN where there is none. -/
def orUnknown {α : Type} (o : Option α) (s : State) (f : α → State × Answer) : State × Answer :=
  match o with
  | some a => f a
  | none => (s, Answer.refuse .unknown)

end Sys2Proof.Machine
end

