-- ==== Sys2Proof/Machine/Fit.lean ====
section
/-! DEFINITION. Whether a coil fits a place, the floor load figures, the slot finder, and the axle predictions with the plan
check (R27 to R32, R37, R38, R171 to R173). -/

namespace Sys2Proof.Machine

/-! ### Floor loads and fits (R27 to R29) -/

/-- The weight on or bound for a place (R27). -/
def State.weightAt (s : State) (p : PlaceRef) : Nat :=
  match (s.findPlace p).bind (fun x => x.state.coil?) with
  | some id => match s.findCoil id with | some c => c.reference | none => 0
  | none => 0

/-- The weights on or bound for the nests above a floor position (R27). -/
def State.nestWeights (s : State) (r g : Nat) : Nat := s.weightAt (.nest r (g - 1)) + s.weightAt (.nest r g)

/-- The floor load figure of a floor position (R27). -/
def State.floorLoad (s : State) (r g : Nat) : Nat := 2 * s.weightAt (.floor r g) + s.nestWeights r g

/-- Whether a class is in a class mask (R20). -/
def classIn (mask : BitVec 8) (cls : Nat) : Bool := decide (1 ≤ cls) && mask.getLsbD (cls - 1)

/-- Fit of a coil to a floor position (R28). -/
def State.fitsFloor (s : State) (row : Row) (g : Nat) (c : Coil) : Bool :=
  classIn row.cfg.classes c.cls && decide (c.width ≤ row.cfg.maxWidth) && decide (c.diameter ≤ row.cfg.maxDiameter) &&
    decide (2 * c.reference + s.nestWeights row.cfg.num g ≤ 2 * row.cfg.floorLimit)

/-- The coil on a support, where the support is OCCUPIED and is not the move's own source (R29, R32). -/
def State.supportCoil (s : State) (source : Option PlaceRef) (p : PlaceRef) : Option Coil :=
  if source = some p then none
  else match (s.findPlace p).map Place.state with
    | some (.occupied id) => s.findCoil id
    | _ => none

/-- Fit of a coil to a nest position (R29), the place `source` counted as OUTGOING (R32). -/
def State.fitsNest (s : State) (source : Option PlaceRef) (row : Row) (u : Nat) (c : Coil) : Bool :=
  let r := row.cfg.num
  match s.supportCoil source (.floor r u), s.supportCoil source (.floor r (u + 1)) with
  | some a, some b =>
    row.cfg.nests && a.bearing && b.bearing && decide (c.width ≤ min a.width b.width) &&
      decide (((a.diameter : Int) - b.diameter).natAbs ≤ row.cfg.mismatch) && decide (c.diameter ≤ row.cfg.maxDiameter) &&
      classIn row.cfg.classes c.cls && decide (100 * c.reference ≤ row.cfg.bearing * min a.reference b.reference) &&
      decide (2 * a.reference + s.weightAt (.nest r (u - 1)) + c.reference ≤ 2 * row.cfg.floorLimit) &&
      decide (2 * b.reference + s.weightAt (.nest r (u + 1)) + c.reference ≤ 2 * row.cfg.floorLimit)
  | _, _ => false

/-- Fit of a coil to a place: R28 at a floor position, R29 at a nest, the width at a cradle (R166), none at a saddle. -/
def State.fits (s : State) (source : Option PlaceRef) (p : PlaceRef) (c : Coil) : Bool :=
  match p with
  | .entry _ => true
  | .floor r g => match s.findRow r with | some row => s.fitsFloor row g c | none => false
  | .nest r u => match s.findRow r with | some row => s.fitsNest source row u c | none => false
  | .cradle b k =>
    match (s.findBay b).bind (fun x => x.cradleDef k) with
    | some d => decide (c.width ≤ d.maxWidth)
    | none => false

/-- Whether a nest above a floor position is in a state other than FREE (R31). -/
def State.trapped (s : State) (r g : Nat) : Bool :=
  [g - 1, g].any (fun u => match (s.findPlace (.nest r u)).map Place.state with
    | some st => st != .free
    | none => false)

/-- Whether the location of a coil is a floor position with a nest above it that is not FREE (R31, R39). -/
def State.coilTrapped (s : State) (c : Coil) : Bool :=
  match c.loc with
  | .place (.floor r g) => s.trapped r g
  | _ => false

/-- The place a location is, if it is one. -/
def Loc.place? : Loc → Option PlaceRef
  | .place p => some p
  | .hook _ => none
  | .astray _ _ => none

/-! ### The slot finder (R37, R38) -/

/-- A candidate of the slot finder with its cost (R38). -/
structure Candidate where
  place : PlaceRef
  cost : Nat
deriving DecidableEq, Repr, Inhabited

/-- The X_ref of a coil; none where its crane holds no last X (R38). -/
def State.refX (s : State) (c : Coil) : Option Int := (s.locPos c.loc).map Prod.fst

/-- Whether the X centre of a row lies in a zone that is not SHUT (R37). -/
def State.rowOpen (s : State) (row : Row) : Bool :=
  match s.arbiter.table with
  | some t => match (t.zoneAt row.cfg.x).bind t.zone? with
    | some z => z.state != .shut
    | none => false
  | none => false

/-- The places of a row: floor positions first, lower positions first (R38). -/
def Row.places (row : Row) : List PlaceRef :=
  (List.range row.floors.length).map (fun i => PlaceRef.floor row.cfg.num (i + 1)) ++
    (List.range row.nests.length).map (fun i => PlaceRef.nest row.cfg.num (i + 1))

/-- Whether a place is FREE and unblocked. -/
def State.placeOpen (s : State) (p : PlaceRef) : Bool :=
  match s.findPlace p with
  | some x => x.state == .free && !x.blocked
  | none => false

/-- The candidates for a coil in the order of R38; `source` is counted as OUTGOING (R37, R38).
DEDUCED, notes/assumptions/18.md. -/
def State.candidates (s : State) (source : Option PlaceRef) (c : Coil) (xRef : Int) : List Candidate :=
  let all := s.store.rows.flatMap (fun row =>
    if s.rowOpen row then
      (row.places.filter (fun p => s.placeOpen p && s.fits source p c)).map (fun p =>
        { place := p
          cost := ((row.cfg.x : Int) - xRef).natAbs / 100 + (match p with | .nest _ _ => row.cfg.penalty | _ => 0) })
    else [])
  all.insertionSort (fun a b => a.cost ≤ b.cost)

/-! ### Axle prediction (R171, R172) -/

/-- A coil counted towards a bay: its reference weight and the distance of its cradle (R171). -/
structure Counted where
  weight : Nat
  dist : Nat
deriving DecidableEq, Repr, Inhabited

/-- The cradle of bay `b` at which a coil is counted: the one it lies on, or the target of its live move while it is at HOOK
(R171). -/
def State.countedCradle (s : State) (b : Nat) (c : Coil) : Option Nat :=
  match c.loc with
  | .place (.cradle b' k) => if b' = b then some k else none
  | .hook _ =>
    match (c.move.bind s.findMove).bind (fun m => if m.live then m.target else none) with
    | some (.place (.cradle b' k)) => if b' = b then some k else none
    | _ => none
  | _ => none

/-- The coils counted towards a bay, leaving out the coil `except` (R171). -/
def State.counted (s : State) (x : Bay) (except : Option Ident) : List Counted :=
  s.coils.filterMap (fun c =>
    if except = some c.id then none
    else ((s.countedCradle x.cfg.num c).bind x.cradleDef).map (fun d => { weight := c.reference, dist := d.dist }))

/-- The bogie share, and what is left for the fifth wheel as K, of a list of counted coils (R171). -/
def bogieShare (t : Truck) (l : List Counted) : Int := roundDiv ((l.map (fun k => k.weight * k.dist)).sum : Nat) t.bogieDist

/-- K: the counted weight less the bogie share (R171). -/
def wheelShare (t : Truck) (l : List Counted) : Int := ((l.map Counted.weight).sum : Nat) - bogieShare t l

/-- The predicted loads of a truck with its tares and the counted coils (R171). -/
def predict (t : Truck) (frontTare rearTare : Int) (l : List Counted) : Prediction :=
  let bogie := bogieShare t l
  let k := wheelShare t l
  let steer := roundDiv (k * t.fifthWheel) t.wheelbase
  let steerTare := roundDiv (frontTare * t.steerShare) 1000
  { steer := steerTare + steer, drive := (frontTare - steerTare) + (k - steer), bogie := rearTare + bogie }

/-- The first figure of a prediction above its limit, in the order steer, drive, bogie, gross (R172, R173). -/
def Prediction.firstOver (p : Prediction) (t : Truck) : Option AxleFigure :=
  if (t.steerLimit : Int) < p.steer then some .steer
  else if (t.driveLimit : Int) < p.drive then some .drive
  else if (t.bogieLimit : Int) < p.bogie then some .bogie
  else if (t.grossLimit : Int) < p.steer + p.drive + p.bogie then some .gross
  else none

/-- The prediction of a bay with the given counted coils; absent before the tare (R171). -/
def Bay.predictWith (x : Bay) (l : List Counted) : Option Prediction :=
  match x.truck, x.frontTare, x.rearTare with
  | some t, some f, some r => some (predict t f r l)
  | _, _, _ => none

/-- Whether the prediction with the given counted coils exceeds the truck's limits (R172). -/
def Bay.overWith (x : Bay) (l : List Counted) : Bool :=
  match x.truck, x.predictWith l with
  | some t, some p => (p.firstOver t).isSome
  | _, _ => false

/-- The coils counted towards a bay with coil `c` counted at cradle `k` (R88, R92, R102). -/
def State.countedAt (s : State) (x : Bay) (c : Coil) (k : Nat) : List Counted :=
  s.counted x (some c.id) ++ ((x.cradleDef k).map (fun d => { weight := c.reference, dist := d.dist })).toList

/-- Computes the prediction of every bay afresh (R171). -/
def State.refreshPredictions (s : State) : State :=
  { s with bays := s.bays.map (fun x => { x with predicted := x.predictWith (s.counted x none) }) }

/-- The coils of the first `k` plan entries at their cradles, whatever their locations (R173). -/
def State.planPart (s : State) (x : Bay) (k : Nat) : List Counted :=
  (x.plan.take k).filterMap (fun e =>
    match s.findCoil e.coil, x.cradleDef e.cradle with
    | some c, some d => some { weight := c.reference, dist := d.dist }
    | _, _ => none)

/-- The plan check: the first part of the plan, from none of its entries to all of them, that exceeds the limits (R173). -/
def State.planCheck (s : State) (x : Bay) : PlanResult :=
  let exceed := fun k => match x.truck, x.predictWith (s.planPart x k) with
    | some t, some p => p.firstOver t
    | _, _ => none
  match (List.range (x.plan.length + 1)).findSome? (fun k => (exceed k).map (fun f => (k, f))) with
  | some (k, f) => .failed k f
  | none => .passed

end Sys2Proof.Machine
end

