-- ==== Sys2Proof/Machine/Queue.lean ====
section
/-! DEFINITION. The weigh queue and the four engines: placement, allocation, the urgent start, ends and removals
(R124 to R129), and the bits that feed the engines (R133, R134). -/

namespace Sys2Proof.Machine

/-! ### Requests and their order (R124) -/

/-- CHECK requests are urgent (R124). -/
def WeighRequest.urgent (r : WeighRequest) : Bool := r.purpose == .check

/-- READ, ZERO and SPAN are host requests (R124). -/
def WeighRequest.isHost (r : WeighRequest) : Bool := r.purpose == .read || r.purpose == .zero || r.purpose == .span

/-- A request is RUNNING while an engine runs it (R124). -/
def WeighRequest.isRunning (r : WeighRequest) : Bool := r.run.isSome

/-- The queue with a new request in its place: urgent requests first, each group by rising arrival number (R124). -/
def insertRequest (q : List WeighRequest) (r : WeighRequest) : List WeighRequest :=
  if r.urgent then q.takeWhile WeighRequest.urgent ++ r :: q.dropWhile WeighRequest.urgent else q ++ [r]

/-- The rank of an arrival number among others, from 1. -/
def rankOf (all : List Nat) (a : Nat) : Nat := (all.filter (fun b => decide (b < a))).length + 1

/-- The weigh queue ready to give an arrival number: where 65,535 has been given, the requests are first renumbered 1 upward
(R124). -/
def WeighState.readyArrival (w : WeighState) : WeighState :=
  if Config.lastArrival < w.nextArrival then
    let all := w.queue.map WeighRequest.arrival
    { w with queue := w.queue.map (fun r => { r with arrival := rankOf all r.arrival }), nextArrival := w.queue.length + 1 }
  else w

/-- The state with the requests that match `p` changed. -/
def State.updRequests (s : State) (p : WeighRequest → Bool) (f : WeighRequest → WeighRequest) : State :=
  { s with weigh := { s.weigh with queue := s.weigh.queue.map (fun r => if p r then f r else r) } }

/-- The request that runs on a weigh point (R126). -/
def State.runningOn (s : State) (wp : WeighPoint) : Option WeighRequest :=
  s.weigh.queue.find? (fun r => r.isRunning && r.point == wp)

/-- The request an engine runs; none while it is free (R126). -/
def State.engineRequest (s : State) (engine : Nat) : Option WeighRequest :=
  s.weigh.queue.find? (fun r => match r.run with | some e => e.engine == engine | none => false)

/-- The lowest-numbered free engine (R126). -/
def State.freeEngine (s : State) : Option Nat := [1, 2, 3, 4].find? (fun e => (s.engineRequest e).isNone)

/-! ### Ends (R128) -/

/-- The result record of a request at its end (R128). -/
def State.resultOf (s : State) (r : WeighRequest) (o : WeighOutcome) : ResultRecord :=
  { point := r.point, purpose := r.purpose, outcome := o, sample := r.run.bind (fun e => e.samples.head?),
    counts := r.point.channels.map (fun ch => (s.calibOf ch).count), retry := r.retry, mass := r.mass, verdict := none,
    stored := none }

/-- Ends the requests that match `p`: they leave the queue, their engines are freed, and their results are on their way to
every requester (R128, R129). DEDUCED, the engines before the results, notes/assumptions/12.md; the results in the order of the
queue and of each list of requesters, notes/assumptions/77.md. -/
def State.endRequests (s : State) (p : WeighRequest → Bool) (o : WeighOutcome) : State :=
  let ended := s.weigh.queue.filter p
  let results := ended.flatMap (fun r => r.requesters.map (fun q => { requester := q, result := s.resultOf r o }))
  { s with weigh := { s.weigh with queue := s.weigh.queue.filter (fun r => !p r), outbox := s.weigh.outbox ++ results } }

/-! ### Starts (R126, R127) -/

/-- The empty precise paths of a weigh point (R126, R133). -/
def State.emptyPaths (s : State) (wp : WeighPoint) : List Precise :=
  wp.channels.map (fun ch =>
    { filter := Sinc.start (((s.channel ch).cfg.map ChanSettings.order).getD 1), acc := 0, outputs := 0, samples := [] })

/-- An engine takes the request of an arrival number: it starts from empty, or ends FAULT at once where a channel is not
RUNNING (R126). -/
def State.startRequest (s : State) (r : WeighRequest) (engine : Nat) : State :=
  if s.pointRunning r.point then
    s.updRequests (fun x => x.arrival == r.arrival) (fun x =>
      { x with run := some { engine := engine, started := s.weigh.event, settle := some s.settings.settleTimeout,
                             paths := s.emptyPaths r.point, samples := [] } })
  else s.endRequests (fun x => x.arrival == r.arrival) .fault

/-- The first WAITING request, in queue order, whose weigh point has no RUNNING request (R126). -/
def State.takeable (s : State) : Option WeighRequest :=
  s.weigh.queue.find? (fun r => !r.isRunning && (s.runningOn r.point).isNone)

/-- Free engines take requests one at a time, lowest-numbered engine first (R126). -/
def State.allocateUpTo : Nat → State → State
  | 0, s => s
  | k + 1, s =>
    match s.freeEngine, s.takeable with
    | some e, some r => State.allocateUpTo k (s.startRequest r e)
    | _, _ => s

/-- The allocation of R126: each take starts a request or ends it, so the queue's length bounds the takes. -/
def State.allocate (s : State) : State := State.allocateUpTo s.weigh.queue.length s

/-- Whether start `a` is more recent than start `b`: by event, and within one event by the higher-numbered engine (R127). DESIGN CHOICE, notes/assumptions/13.md. -/
def EngineRun.laterThan (a b : EngineRun) : Bool :=
  decide (b.started < a.started) || (a.started == b.started && decide (b.engine < a.engine))

/-- The RUNNING regular request whose start was the most recent (R127). -/
def State.latestRegular (s : State) : Option (WeighRequest × EngineRun) :=
  (s.weigh.queue.filterMap (fun r => if r.urgent then none else r.run.map (fun e => (r, e)))).foldl
    (fun best x => match best with
      | none => some x
      | some b => if x.2.laterThan b.2 then some x else some b) none

/-- A preempted request returns to WAITING with its mark set and its engine's filters discarded (R127). -/
def State.preempt (s : State) (r : WeighRequest) : State :=
  s.updRequests (fun x => x.arrival == r.arrival) (fun x => { x with run := none, preempted := true })

/-- The urgent start of a CHECK (R127). -/
def State.urgentStart (s : State) (r : WeighRequest) : State :=
  match s.runningOn r.point with
  | some x =>
    match x.run with
    | some e => if x.urgent then s else (s.preempt x).startRequest r e.engine
    | none => s
  | none =>
    match s.freeEngine with
    | some e => s.startRequest r e
    | none => match s.latestRegular with
      | some (x, e) => (s.preempt x).startRequest r e.engine
      | none => s

/-- CHECK, TARE, PLACE and READ merge with a WAITING request of the same weigh point and purpose (R125). -/
def mergeable (wp : WeighPoint) (p : Purpose) (r : WeighRequest) : Bool :=
  !r.isRunning && r.point == wp && r.purpose == p && p != .zero && p != .span

/-- The list with the first element that `p` finds changed by `f`. -/
def updFirst {α : Type} (p : α → Bool) (f : α → α) : List α → List α
  | [] => []
  | x :: rest => if p x then f x :: rest else x :: updFirst p f rest

/-- Adds a requester to the first WAITING request, in queue order, that a new one merges with (R125). DEDUCED, where more than
one waits, notes/assumptions/56.md. -/
def State.joinRequest (s : State) (wp : WeighPoint) (p : Purpose) (q : Requester) : State :=
  { s with weigh := { s.weigh with
      queue := updFirst (mergeable wp p) (fun r => { r with requesters := r.requesters ++ [q] }) s.weigh.queue } }

/-- Places a weigh request, with the allocation or the urgent start that follows at once (R125). -/
def State.placeRequest (s : State) (wp : WeighPoint) (p : Purpose) (q : Requester) (mass retry : Nat) : State :=
  if s.weigh.queue.any (mergeable wp p) then (s.joinRequest wp p q).allocate
  else
    let w := s.weigh.readyArrival
    let r : WeighRequest :=
      { point := wp, purpose := p, requesters := [q], mass := mass, preempted := false, retry := retry,
        arrival := w.nextArrival, run := none }
    let s := { s with weigh := { w with queue := insertRequest w.queue r, nextArrival := w.nextArrival + 1 } }
    if r.urgent then (s.urgentStart r).allocate else s.allocate

/-! ### Removals (R129) -/

/-- A request without one of its requesters; none where no requester remains. -/
def WeighRequest.without (r : WeighRequest) (q : Requester) : Option WeighRequest :=
  if r.requesters.erase q = [] then none else some { r with requesters := r.requesters.erase q }

/-- A source removes itself from its requests that match `p`: a request with no requester left leaves the queue, its engine
is freed, and no result is handed on (R129). -/
def State.removeRequester (s : State) (p : WeighRequest → Bool) (q : Requester) : State :=
  if s.weigh.queue.any (fun r => p r && decide (q ∈ r.requesters)) then
    State.allocate { s with weigh := { s.weigh with
      queue := s.weigh.queue.filterMap (fun r => if p r && decide (q ∈ r.requesters) then r.without q else some r) } }
  else s

/-- The place of a request in the queue, from 1 (R130). -/
def State.requestPlace (s : State) (p : WeighRequest → Bool) : Nat := s.weigh.queue.findIdx p + 1

/-- The host requests in the queue (R124, R130). -/
def State.hostRequests (s : State) : Nat := (s.weigh.queue.filter WeighRequest.isHost).length

/-! ### Bits into the engines (R133, R134) -/

/-- One bit value into the precise path of a channel: filter, integrator, and the sample it completes (R133, R134). -/
def Precise.push (p : Precise) (cfg : ChanSettings) (cal : Calib) (v : Int) : Precise :=
  let (f, out) := p.filter.push cfg.order cfg.decim v
  match out with
  | none => { p with filter := f }
  | some u =>
    if p.outputs + 1 < cfg.integ then { p with filter := f, acc := p.acc + u, outputs := p.outputs + 1 }
    else { filter := f, acc := 0, outputs := 0, samples := p.samples ++ [chanSample (p.acc + u) cfg.shift cal] }

/-- Feeds one bit of a channel to the engine that runs a request on its weigh point (R113, R126). -/
def State.feedEngine (s : State) (ch : Nat) (cfg : ChanSettings) (v : Int) : State :=
  let wp := pointOfChannel ch
  let i := wp.channels.idxOf ch
  s.updRequests (fun r => r.isRunning && r.point == wp) (fun r =>
    { r with run := r.run.map (fun e => { e with paths := e.paths.modify i (fun p => p.push cfg (s.calibOf ch) v) }) })

/-- The next sample of every precise path, where each has one: a hoist's gross sample waits for the later of the two
(R128, R134). -/
def EngineRun.nextSamples (e : EngineRun) : Option (List ChanSample) := e.paths.mapM (fun p => p.samples.head?)

/-- The engine with the next sample of every path taken. -/
def EngineRun.dropSamples (e : EngineRun) : EngineRun :=
  { e with paths := e.paths.map (fun p => { p with samples := p.samples.tail }) }

end Sys2Proof.Machine
end

