-- ==== Sys2Proof/Machine/Bays.lean ====
section
/-! DEFINITION. The shared operations of the Bay Units: presence, phase, hold, tare, plan entries, plan check and placement
rounds (chapters 8 and 9). -/

namespace Sys2Proof.Machine

/-! ### The two platforms of a bay -/

/-- One of the two platforms of a bay. -/
inductive Side where
  | front
  | rear
deriving DecidableEq, Repr, Inhabited

/-- The weigh point of a platform (0.7.7). -/
def Side.point (d : Side) (b : Nat) : WeighPoint :=
  match d with
  | .front => .front b
  | .rear => .rear b

/-- The platform a weigh point is, with its bay; none for a hoist. -/
def sideOf : WeighPoint → Option (Nat × Side)
  | .hoist _ => none
  | .front b => some (b, .front)
  | .rear b => some (b, .rear)

/-- The level of a platform (R122). -/
def State.levelOf (s : State) (b : Nat) (d : Side) : Level := (s.point (d.point b)).level

/-- The request a bay has outstanding on a platform (R151). -/
def Bay.request (x : Bay) : Side → Option Outstanding
  | .front => x.frontRequest
  | .rear => x.rearRequest

/-- Records the outstanding request of a platform. -/
def Bay.setRequest (x : Bay) (d : Side) (o : Option Outstanding) : Bay :=
  match d with
  | .front => { x with frontRequest := o }
  | .rear => { x with rearRequest := o }

/-- The tare candidate of a platform (R151). -/
def Bay.candidate (x : Bay) : Side → Option Int
  | .front => x.frontCandidate
  | .rear => x.rearCandidate

/-- Writes the tare candidate of a platform. -/
def Bay.setCandidate (x : Bay) (d : Side) (v : Option Int) : Bay :=
  match d with
  | .front => { x with frontCandidate := v }
  | .rear => { x with rearCandidate := v }

/-- Whether a platform channel of bay `b` is in FAULT (R151, R160). -/
def State.platformFault (s : State) (b : Nat) : Bool :=
  (s.channel (4 + 2 * b)).faulted || (s.channel (5 + 2 * b)).faulted

/-! ### Requests of a bay (R129, R159, R174) -/

/-- Places a weigh request of a bay on one of its platforms and records it as outstanding (R159, R174). -/
def State.placeBayRequest (s : State) (b : Nat) (d : Side) (p : Purpose) (retry : Nat) : State :=
  (s.updBay b (fun x => x.setRequest d (some { purpose := p, retry := retry }))).placeRequest (d.point b) p (.bay b) 0 retry

/-- Withdraws the outstanding requests of a bay with one purpose (R129). -/
def State.withdrawBayRequests (s : State) (b : Nat) (p : Purpose) : State :=
  let clear := fun (o : Option Outstanding) => match o with
    | some k => if k.purpose = p then none else some k
    | none => none
  let s := s.updBay b (fun x => { x with frontRequest := clear x.frontRequest, rearRequest := clear x.rearRequest })
  s.removeRequester (fun r => r.purpose == p && (r.point == .front b || r.point == .rear b)) (.bay b)

/-- Places the TARE a platform still needs: its candidate is absent, it has no outstanding request, and its level is not FAULT
(R159). DEDUCED, its retry count 0, notes/assumptions/68.md. -/
def State.placeTare (s : State) (b : Nat) (d : Side) : State :=
  match s.findBay b with
  | some x =>
    if x.phase = .taring ∧ (x.candidate d).isNone ∧ (x.request d).isNone ∧ s.levelOf b d ≠ .fault then
      s.placeBayRequest b d .tare 0
    else s
  | none => s

/-- Places the TAREs a bay needs as it enters TARING (R159). -/
def State.placeTares (s : State) (b : Nat) : State := (s.placeTare b .front).placeTare b .rear

/-- Places the TARE a platform still needs where its channel runs; one whose channel does not run waits for it to enter RUNNING
(R159). DEDUCED, notes/assumptions/67.md. -/
def State.tareIfRunning (s : State) (b : Nat) (d : Side) : State :=
  if s.pointRunning (d.point b) then s.placeTare b d else s

/-- Places the TAREs a bay in TARING still needs on the platforms that run: at the thaw, when channels enter RUNNING, and at
RESTART (R159, R164). -/
def State.taresStillNeeded (s : State) (b : Nat) : State := (s.tareIfRunning b .front).tareIfRunning b .rear

/-! ### Phase, presence and hold (R152 to R160) -/

/-- Changes the phase of a bay; a change raises BAY_CHANGE, and the entry into TARING starts the tare (R155, R159). -/
def State.setPhase (s : State) (b : Nat) (ph : Phase) : State :=
  match s.findBay b with
  | some x =>
    if x.phase = ph then s
    else
      let s := (s.updBay b (fun x => { x with phase := ph })).raise (.bayChange b)
      if ph = .taring then s.placeTares b else s
  | none => s

/-- Sets a bay hold by the replacement rule: a reason other than a limit reason does not replace a limit reason (R160). -/
def State.setHold (s : State) (b : Nat) (h : BayHold) : State :=
  let isLimit := fun (k : BayHold) => k == .planLimit || k == .tareLimit
  match s.findBay b with
  | some x =>
    if x.hold.any isLimit && !isLimit h then s
    else (s.updBay b (fun x => { x with hold := some h })).raise (.bayChange b)
  | none => s

/-- A presence, its freezing, or a security has changed: the Zone Arbiter examines its list (R157); the Tracker's BAY
judgement closes the event (R58). -/
def State.bayHanded (s : State) (_b : Nat) : State := s.wantExam

/-- Changes the presence of a bay with its timers (R152, R153); the change is handed on (R157) and raises
BAY_CHANGE. DEDUCED, that notice, notes/assumptions/22.md. -/
def State.setPresence (s : State) (b : Nat) (p : Presence) (arrival departure : Timer) : State :=
  ((s.updBay b (fun x => { x with presence := p, arrival := arrival, departure := departure })).raise
    (.bayChange b)).bayHanded b

/-- The arrival condition: a platform level is HIGH (R152). -/
def State.arrivalHolds (s : State) (b : Nat) : Bool := s.levelOf b .front == .high || s.levelOf b .rear == .high

/-- The departure condition: both platform levels are LOW (R153). -/
def State.departureHolds (s : State) (b : Nat) : Bool := s.levelOf b .front == .low && s.levelOf b .rear == .low

/-- Judges the arrival or departure condition of a bay whose presence is not frozen (R152, R153). -/
def State.judgePresence (s : State) (b : Nat) : State :=
  match s.findBay b with
  | some x =>
    if x.frozen then s
    else match x.presence with
      | .empty =>
        if s.arrivalHolds b then s.setPresence b .arriving (some (1000 * s.settings.arrivalTime)) none else s
      | .arriving => if s.arrivalHolds b then s else s.setPresence b .empty none none
      | .present =>
        if s.departureHolds b then s.setPresence b .departing none (some (1000 * s.settings.departureTime)) else s
      | .departing => if s.departureHolds b then s else s.setPresence b .present none none
  | none => s

/-- A platform of the bay has gone to level FAULT: the presence freezes, the timers stop, and the bay holds PLATFORM_FAULT
(R154). DEDUCED, a presence frozen already is handed on again (R157), notes/assumptions/78.md. -/
def State.freezeBay (s : State) (b : Nat) : State :=
  let s := s.updBay b (fun x => { x with frozen := true, arrival := none, departure := none })
  ((s.setHold b .platformFault).raise (.bayChange b)).bayHanded b

/-- Neither level is FAULT any more: the presence thaws, a frozen ARRIVING or DEPARTING starts a fresh timer where its
condition holds, and the conditions are judged afresh; a bay in TARING places what it still needs (R154, R159). DEDUCED, no
BAY_CHANGE for the thaw itself, notes/assumptions/83.md. -/
def State.thawBay (s : State) (b : Nat) : State :=
  let arr := if s.arrivalHolds b then some (1000 * s.settings.arrivalTime) else none
  let dep := if s.departureHolds b then some (1000 * s.settings.departureTime) else none
  let s := s.updBay b (fun x =>
    { x with
      frozen := false
      arrival := if x.presence = .arriving then arr else none
      departure := if x.presence = .departing then dep else none })
  ((s.bayHanded b).judgePresence b).taresStillNeeded b

/-- A platform level as the Front End keeps it, handed to its bay when it changes (R122, R154).
DEDUCED, notes/assumptions/40.md. -/
def State.setLevel (s : State) (b : Nat) (d : Side) (l : Level) : State :=
  match s.findBay b with
  | some x =>
    let old := s.levelOf b d
    if old = l then s
    else
      let s := s.updPoint (d.point b) (fun p => { p with level := l })
      if l = .fault then s.freezeBay b
      else if s.levelOf b .front = .fault ∨ s.levelOf b .rear = .fault then s
      else if x.frozen then s.thawBay b
      else s.judgePresence b
  | none => s

/-! ### Plan entries (R167) -/

/-- A LOADING bay enters LOADED when every entry of its plan is PLACED (R155, R167). -/
def State.judgeLoaded (s : State) (b : Nat) : State :=
  match s.findBay b with
  | some x =>
    if x.phase = .loading ∧ x.plan ≠ [] ∧ x.plan.all (fun e => e.status == .placed) = true then s.setPhase b .loaded else s
  | none => s

/-- Whether a plan entry is the one of a coil at a cradle. -/
def PlanEntry.isFor (e : PlanEntry) (k : Nat) (coil : Ident) : Bool := e.coil == coil && e.cradle == k

/-- Changes the status of the entry of a coil at cradle `k` in a bay's plan; a change raises BAY_CHANGE (R167). -/
def State.setEntry (s : State) (b k : Nat) (coil : Ident) (st : EntryStatus) : State :=
  match s.findBay b with
  | some x =>
    if x.plan.any (fun e => e.isFor k coil && e.status != st) then
      ((s.updBay b (fun x =>
        { x with plan := x.plan.map (fun e => if e.isFor k coil then { e with status := st } else e) })).raise
          (.bayChange b)).judgeLoaded b
    else s
  | none => s

/-- The plan check of a tared bay, whose result the bay holds; a failure sets TARE_LIMIT or PLAN_LIMIT (R173). DEDUCED, at an
AMEND whose check passes, notes/assumptions/53.md. -/
def State.runPlanCheck (s : State) (b : Nat) : State :=
  match s.findBay b with
  | some x =>
    if x.tared then
      let r := s.planCheck x
      let s := s.updBay b (fun x => { x with planCheck := some r })
      match r with
      | .passed => s
      | .failed 0 _ => s.setHold b .tareLimit
      | .failed _ _ => s.setHold b .planLimit
    else s
  | none => s

/-- A passing check at REPLAN clears a limit reason, or turns it to PLATFORM_FAULT while a platform channel is in FAULT
(R160, R173). -/
def State.clearLimit (s : State) (b : Nat) : State :=
  match s.findBay b with
  | some x =>
    if x.planCheck = some .passed ∧ (x.hold = some .planLimit ∨ x.hold = some .tareLimit) then
      (s.updBay b (fun x => { x with hold := if s.platformFault b then some .platformFault else none })).raise (.bayChange b)
    else s
  | none => s

/-! ### Placement rounds (R174, R175) -/

/-- The coils lying on the cradles of a bay (R174). -/
def State.lying (s : State) (x : Bay) : List Counted :=
  s.coils.filterMap (fun c =>
    match c.loc with
    | .place (.cradle b k) =>
      if b = x.cfg.num then (x.cradleDef k).map (fun d => { weight := c.reference, dist := d.dist }) else none
    | _ => none)

/-- The bay removes itself from its PLACE requests, and drops what a round has received (R174). -/
def State.dropRound (s : State) (b : Nat) : State :=
  (s.updBay b (fun x => { x with round := none })).withdrawBayRequests b .place

/-- Abandons a round still in progress; after a round that has ended, a PLACE still outstanding stays (R174). -/
def State.abandonRound (s : State) (b : Nat) : State :=
  if ((s.findBay b).bind Bay.round).isSome then s.dropRound b else s

/-- Places a PLACE on one platform; a platform whose level is FAULT gets none, and the round ends (R174). -/
def State.placeOnPlatform (s : State) (b : Nat) (d : Side) (retry : Nat) : State :=
  if s.levelOf b d = .fault then s.updBay b (fun x => { x with round := none }) else s.placeBayRequest b d .place retry

/-- Starts a placement round: the bay removes itself from any PLACE still outstanding, fixes the expected loads and the band,
and places a PLACE on each platform (R174). DEDUCED, the front before the rear, notes/assumptions/79.md. -/
def State.startRound (s : State) (b : Nat) : State :=
  let s := s.dropRound b
  match s.findBay b with
  | some x =>
    match x.truck with
    | some t =>
      let l := s.lying x
      let wc := (l.map Counted.weight).sum
      let round : Round :=
        { front := wheelShare t l, rear := bogieShare t l
          band := ((max s.settings.bayAllowance (wc * s.settings.bayRatio / 1000) : Nat) : Int), frontNet := none, rearNet := none }
      ((s.updBay b (fun x => { x with round := some round })).placeOnPlatform b .front 0).placeOnPlatform b .rear 0
    | none => s
  | none => s

/-- Compares a round that has received both results; a deviation beyond the band holds the bay by the replacement rule, and raises
BAY_CHANGE also where a limit reason stands (R175). -/
def State.judgeRound (s : State) (b : Nat) : State :=
  match (s.findBay b).bind Bay.round with
  | some r =>
    match r.frontNet, r.rearNet with
    | some f, some k =>
      let s := s.updBay b (fun x => { x with round := none })
      if r.band < ((f - r.front).natAbs : Int) ∨ r.band < ((k - r.rear).natAbs : Int) then
        (s.setHold b .deviation).raise (.bayChange b)
      else s
    | _, _ => s
  | none => s

/-- UNSTABLE or SATURATED: a PLACE once more with retry count 1, then hold UNSETTLED (R174). -/
def State.placeAgain (s : State) (b : Nat) (d : Side) (retry : Nat) : State :=
  if retry = 0 then s.placeBayRequest b d .place 1
  else (s.updBay b (fun x => { x with round := none })).setHold b .unsettled

/-- The bay takes a PLACE result (R174, R175). DEDUCED, notes/assumptions/20.md. -/
def State.placeResult (s : State) (b : Nat) (d : Side) (r : ResultRecord) : State :=
  let s := s.updBay b (fun x => x.setRequest d none)
  match r.outcome with
  | .stable =>
    let net := r.sample.map GrossSample.net
    let s := s.updBay b (fun x => match d with
      | .front => { x with frontNet := net, round := x.round.map (fun k => { k with frontNet := net }) }
      | .rear => { x with rearNet := net, round := x.round.map (fun k => { k with rearNet := net }) })
    s.judgeRound b
  | .unstable => s.placeAgain b d r.retry
  | .saturated => s.placeAgain b d r.retry
  | .fault => s.updBay b (fun x => { x with round := none })
  | .cancelled => s.placeBayRequest b d .place r.retry
  | .switchClosed => s

/-! ### Tare results (R159) -/

/-- When both candidates are present they become the tares, the plan is checked, and the phase becomes READY (R159). -/
def State.judgeTares (s : State) (b : Nat) : State :=
  match s.findBay b with
  | some x =>
    match x.frontCandidate, x.rearCandidate with
    | some f, some r =>
      if x.phase = .taring then
        let s := s.updBay b (fun x =>
          { x with frontTare := some f, rearTare := some r, frontCandidate := none, rearCandidate := none })
        (s.runPlanCheck b).setPhase b .ready
      else s
    | _, _ => s
  | none => s

/-- A TARE that has not settled is placed again; the first time the retry mark is set and BAY_CHANGE raised (R159). -/
def State.tareAgain (s : State) (b : Nat) (d : Side) : State :=
  match s.findBay b with
  | some x =>
    let s := s.placeTare b d
    if x.tareRetry then s else (s.updBay b (fun x => { x with tareRetry := true })).raise (.bayChange b)
  | none => s

/-- The bay takes a TARE result (R159). -/
def State.tareResult (s : State) (b : Nat) (d : Side) (r : ResultRecord) : State :=
  let s := s.updBay b (fun x => x.setRequest d none)
  match r.outcome with
  | .stable => (s.updBay b (fun x => x.setCandidate d (r.sample.map GrossSample.gross))).judgeTares b
  | .unstable => s.tareAgain b d
  | .saturated => s.tareAgain b d
  | .fault => s
  | .cancelled => s.placeTare b d
  | .switchClosed => s

end Sys2Proof.Machine
end

