-- ==== Sys2Proof/Machine/Carry.lean ====
section
/-! DEFINITION. The shared operations of the Move Table: reservations, zone entries, checkweighs, holds, heads and ends
(chapter 5, with R33 to R36 and R69 to R71). -/

namespace Sys2Proof.Machine

/-! ### Zone entries (R69, R71) -/

/-- The request list ready to give an arrival number: where 65,535 has been given, the entries are first renumbered 1 upward
(R69). -/
def Arbiter.readyArrival (a : Arbiter) : Arbiter :=
  if Config.lastArrival < a.nextArrival then
    let all := a.requests.map ZoneEntry.arrival
    { a with requests := a.requests.map (fun e => { e with arrival := rankOf all e.arrival }),
             nextArrival := a.requests.length + 1 }
  else a

/-- Withdraws the zone entry of a move, if it has one (R71). -/
def State.withdrawEntry (s : State) (id : Nat) : State :=
  { s with arbiter := { s.arbiter with requests := s.arbiter.requests.filter (fun e => e.move != id) } }

/-- Places the zone entry of a move; an entry its crane already has is withdrawn, and an examination follows
(R69, R70, R74). -/
def State.placeEntry (s : State) (m : Move) : State :=
  let s := { s with arbiter := { s.arbiter with requests := s.arbiter.requests.filter (fun e => e.crane != m.crane) } }
  let a := s.arbiter.readyArrival
  let e : ZoneEntry :=
    { crane := m.crane, move := m.id, run := none, urgent := m.urgent || m.origin == .yield, carries := m.kind == .carry,
      arrival := a.nextArrival }
  { s with arbiter := { a with requests := a.requests ++ [s.refreshEntry e], nextArrival := a.nextArrival + 1,
                               examine := true } }

/-! ### Reservations (R33, R36, R89) -/

/-- Reserves a target for a move: the place becomes INCOMING; for a cradle the plan entry becomes MOVING and a READY bay
enters LOADING (R33, R89, R107). -/
def State.reserveTarget (s : State) (id : Nat) (coil : Ident) (p : PlaceRef) : State :=
  let s := s.setPlace p (.incoming id coil)
  match p with
  | .cradle b k =>
    let s := s.setEntry b k coil (.moving id)
    match s.findBay b with
    | some x => if x.phase = .ready then s.setPhase b .loading else s
    | none => s
  | _ => s

/-- Frees the reserved target of a move; a cradle's plan entry returns to WAITING (R36, R104). -/
def State.freeTarget (s : State) (m : Move) : State :=
  match m.target with
  | some (.place p) =>
    let s := match s.findPlace p with
      | some x => if x.state.move? = some m.id then s.setPlace p .free else s
      | none => s
    match p, m.coil with
    | .cradle b k, some coil =>
      match s.findBay b with
      | some x => if x.plan.any (fun e => e.isFor k coil && e.status == .moving m.id) then s.setEntry b k coil .waiting else s
      | none => s
    | _, _ => s
  | _ => s

/-- Withdraws the target of a CARRY move: it is freed, and the off-target mark is set (R36, R104). -/
def State.withdrawTarget (s : State) (m : Move) : State :=
  (s.freeTarget m).updMove m.id (fun x => { x with target := none, offTarget := true })

/-! ### Judging a target (R92, R102) -/

/-- What the judgement of a target says. -/
inductive Judged where
  | pass
  | unfit
  | axle
deriving DecidableEq, Repr, Inhabited

/-- The hold reason of a failed judgement (R92, R102). -/
def Judged.reason : Judged → HoldReason
  | .axle => .axleLimit
  | _ => .destUnfit

/-- Whether a bay's phase is READY, LOADING or LOADED (R88, R92). -/
def Phase.loads (p : Phase) : Bool := p == .ready || p == .loading || p == .loaded

/-- Judges the target of a move with its coil's present reference weight (R92, R102). -/
def State.judgeTarget (s : State) (m : Move) : Judged :=
  match m.target, s.moveCoil m with
  | some (.runway _), _ => .pass
  | some (.place (.cradle b k)), some c =>
    match s.findBay b with
    | some x =>
      if !x.phase.loads || x.hold.isSome then .unfit
      else if x.overWith (s.countedAt x c k) then .axle
      else .pass
    | none => .unfit
  | some (.place p), some c => if s.fits none p c then .pass else .unfit
  | _, _ => .unfit

/-! ### Checkweighs (R101) -/

/-- The move places a CHECK on the hoist of its crane (R101). -/
def State.startCheck (s : State) (m : Move) (retry : Nat) : State := s.placeRequest (.hoist m.crane) .check (.move m.id) 0 retry

/-- The Weigh Engines remove the CHECK of a move (R101). -/
def State.removeCheck (s : State) (id : Nat) : State := s.removeRequester (fun r => r.purpose == .check) (.move id)

/-! ### Orders (R93) -/

/-- Places the ORDER of a move on its crane's link (R56, R93). -/
def State.placeOrder (s : State) (id : Nat) : State :=
  match s.findMove id with
  | some m =>
    let last := s.lastPosOf m.crane
    let source := if m.kind = .travel ∨ s.onHook m then last else ((m.source.bind s.locPos).getD last)
    let target := match m.target with
      | some (.place p) => (s.placePos p).getD last
      | some (.runway x) => (x, last.2)
      | none => last
    let w := match s.findCrane m.crane with
      | some c => c.window
      | none => none
    s.placeMessage m.crane (.order m.id m.kind source target w)
  | none => s

/-! ### Holds (R104) -/

/-- A move enters HELD: the reason is written, MOVE_HELD raised, its zone entry withdrawn and its CHECK removed, and the
window recomputed (R104). -/
def State.holdMove (s : State) (m : Move) (reason : HoldReason) : State :=
  let s := s.updMove m.id (fun x => { x with state := .held, hold := some reason })
  ((((s.raise (.moveHeld m.crane)).withdrawEntry m.id).removeCheck m.id).refreshWindow m.crane)

/-- A move enters HELD for a destination that failed, and its target is withdrawn (R92, R102, R104). -/
def State.holdUnfit (s : State) (m : Move) (j : Judged) : State := (s.withdrawTarget m).holdMove m j.reason

/-! ### Heads (R85, R86, R92) -/

/-- A head goes for runway: a CARRY move's target is judged again, and the move enters ZONES and places its entry, or is held
(R92). -/
def State.enterZones (s : State) (m : Move) : State :=
  match (if m.kind = .carry then s.judgeTarget m else .pass) with
  | .pass =>
    let s := s.updMove m.id (fun x => { x with state := .zones, hold := none })
    s.placeEntry m
  | j => s.holdUnfit m j

/-- The head of a crane acts: from QUEUED or PENDING it goes for runway; the window is recomputed for it (R49, R92). -/
def State.promote (s : State) (n : Nat) : State :=
  let s : State := match s.head n with
    | some m => if m.state = .queued ∨ m.state = .pending then s.enterZones m else s
    | none => s
  s.refreshWindow n

/-- Where a new move stands in its crane's queue (R86). -/
inductive Standing where
  | head
  | second
  | tail
deriving DecidableEq, Repr, Inhabited

/-- The records with a new one directly behind the first that `p` finds, or at the end where it finds none. -/
def insertBehind (p : Move → Bool) (m : Move) : List Move → List Move
  | [] => [m]
  | x :: rest => if p x then x :: m :: rest else x :: insertBehind p m rest

/-- The Move Table with a new record at its place in the queue (R84, R86). -/
def State.addMove (s : State) (m : Move) (at_ : Standing) : State :=
  let recs := match at_ with
    | .head => m :: s.moves.recs
    | .second => insertBehind (fun x => x.crane == m.crane && x.live) m s.moves.recs
    | .tail => s.moves.recs ++ [m]
  { s with moves := { recs := recs, lastId := m.id } }

/-- Whether the hook of the head of a crane is empty (R86). -/
def State.headHookEmpty (s : State) (n : Nat) : Bool :=
  match s.head n, s.findCrane n with
  | some h, some c =>
    (h.state == .zones || h.state == .toSource || h.state == .travelling || h.state == .held) &&
      c.tongs == .opened && c.load == .free
  | _, _ => true

/-- The owned run of a TRACKING crane shrinks to the zones of its footprint that it owns (R77). -/
def State.shrinkToFootprint (s : State) (n : Nat) : State :=
  match s.findCrane n, s.arbiter.table with
  | some c, some t =>
    if c.tracking = .tracking then
      s.shrinkRun n (meet c.run (c.lastPos.bind (fun p => t.footprint c.halfLength p.1)))
    else s
  | _, _ => s

/-- A head displaced by an urgent move (R87). DESIGN CHOICE, the CANCEL before the WINDOW on the link,
notes/assumptions/51.md. -/
def State.displace (s : State) (h : Move) : State :=
  let s := s.updMove h.id (fun x =>
    { x with pendingMark := true, state := if x.state = .held then .held else .pending })
  let s := if h.state = .zones then s.withdrawEntry h.id else s
  let s := s.shrinkToFootprint h.crane
  if h.state = .toSource ∨ h.state = .travelling then s.placeMessage h.crane (.cancel h.id) else s

/-! ### Set-down of places and coils (R35, R98) -/

/-- A coil takes a new location, and its crane's load becomes FREE with a running slack timer stopped (R54, R98, R120). -/
def State.freeHook (s : State) (n : Nat) : State := s.updCrane n (fun c => { c with load := .free, slack := none })

/-- Settles the source place of an ending CARRY move by the outcome table of R35; a cradle likewise (R98, R166). -/
def State.settleSource (s : State) (m : Move) (o : MoveOutcome) : State :=
  match m.source with
  | some (.place p) => match s.findPlace p with
    | some x => match x.state with
      | .outgoing id c => if id = m.id then s.setPlace p (.occupied c) else s
      | .vacated id =>
        if id = m.id then
          match o, m.coil with
          | .returned, some c => s.setPlace p (.occupied c)
          | _, _ => s.setPlace p .free
        else s
      | _ => s
    | none => s
  | _ => s

/-- The coil of a move that ends DONE lies at its target; on a cradle its entry is PLACED and a placement round starts
(R35, R98, R167, R174). -/
def State.settleTarget (s : State) (p : PlaceRef) (c : Ident) : State :=
  let s := s.setPlace p (.occupied c)
  match p with
  | .cradle b k => (s.setEntry b k c .placed).startRound b
  | _ => s

/-- Settles the source and target places of an ending CARRY move by the outcome table of R35; cradles and their plan entries
likewise (R98, R166, R167). -/
def State.settlePlaces (s : State) (m : Move) (o : MoveOutcome) : State :=
  let s := s.settleSource m o
  match o, m.target, m.coil with
  | .done, some (.place p), some c => s.settleTarget p c
  | _, _, _ => s.freeTarget m

/-- A RETURNED end onto cradle `k`: the entry of the coil at that cradle is PLACED again, a prediction that then exceeds the limits holds the bay, and a
placement round starts (R98, R167, R172, R174). -/
def State.returnToCradle (s : State) (b k : Nat) (coil : Ident) : State :=
  let s := s.setEntry b k coil .placed
  let s := match s.findBay b with
    | some x => if x.overWith (s.counted x none) then s.setHold b .planLimit else s
    | none => s
  s.startRound b

/-- Ends a move (R103): outcome and mark written, coil released from the move, entry withdrawn, CHECK removed, MOVE_ENDED
raised; where it was head the next move becomes head, and an examination follows (R74). DEDUCED, notes/assumptions/25.md. -/
def State.finishMove (s : State) (m : Move) (o : MoveOutcome) (misfit : Bool) : State :=
  let wasHead := s.isHead m
  let s := s.updMove m.id (fun x => { x with state := .ended, outcome := some o, misfit := misfit })
  let s := match m.coil with
    | some c => s.updCoil c (fun x => { x with move := none })
    | none => s
  let s := ((s.withdrawEntry m.id).removeCheck m.id).raise (.moveEnded m.crane)
  let s := if wasHead then s.promote m.crane else s
  if (wasHead ∧ s.isTracking m.crane = true) ∨ s.queue m.crane = [] then s.wantExam else s

/-- Adds STRAY_GRIP to the raise inhibit reason set of a crane (R59). -/
def State.addStrayGrip (s : State) (n : Nat) : State := s.updRaise n (fun r => { r with strayGrip := true })

/-- A move with its coil astray ends (R98, R99). -/
def State.endAstray (s : State) (m : Move) (o : MoveOutcome) (at_ : Pos) : State :=
  let s := match m.coil with
    | some c => s.updCoil c (fun x => { x with loc := .astray at_.1 at_.2 })
    | none => s
  ((s.freeHook m.crane).settlePlaces m o).finishMove m o false

/-! ### Moving a head into its next state -/

/-- A head enters WEIGHING and places its CHECK; the window narrows to its lift X (R48, R96, R101). -/
def State.enterWeighing (s : State) (m : Move) (retry : Nat) : State :=
  let s := s.updMove m.id (fun x => { x with state := .weighing, hold := none })
  (s.refreshWindow m.crane).startCheck m retry

/-- A head enters CARRYING; the window widens to its run window (R101). -/
def State.enterCarrying (s : State) (m : Move) : State :=
  (s.updMove m.id (fun x => { x with state := .carrying, hold := none })).refreshWindow m.crane

/-- Whether a position lies off the target of a move (R97). -/
def State.offTargetAt (s : State) (m : Move) (p : Pos) : Bool :=
  match m.target with
  | some (.place q) => match s.placePos q with
    | some t => !posWithin s.settings.tolerance p t
    | none => true
  | _ => true

/-- A head enters PLACED with the off-target mark judged at a position (R93, R97, R106). -/
def State.enterPlaced (s : State) (m : Move) (p : Pos) : State :=
  let off := s.offTargetAt m p
  (s.updMove m.id (fun x => { x with state := .placed, hold := none, offTarget := off })).refreshWindow m.crane

end Sys2Proof.Machine
end

