-- ==== Sys2Proof/Machine/Settle.lean ====
section
/-! DEFINITION. What follows within one event: results handed to their requesters (R101, R129, R148, R149, R159, R174), the
grant (R73, R93), the examination with its conflicts and yields (R74, R79 to R81), and `settle`, which carries an event to its
end. -/

namespace Sys2Proof.Machine

/-! ### Results (R101, R129) -/

/-- The move takes the result of its CHECK while it is in WEIGHING (R101). DEDUCED, notes/assumptions/28.md. -/
def State.checkResult (s : State) (id : Nat) (r : ResultRecord) : State :=
  match s.findMove id with
  | none => s
  | some m =>
    if m.state ≠ .weighing then s
    else match r.outcome with
      | .stable =>
        match r.sample, s.moveCoil m with
        | some g, some c =>
          if g.display < 500 then s.holdMove m .weighFault
          else
            let v := verify s.settings.allowance s.settings.ratio c.recorded g.display.toNat
            let meas : Measured :=
              { value := g.display.toNat, crane := m.crane, countA := r.counts.getD 0 0, countB := r.counts.getD 1 0 }
            let s := s.updCoil c.id (fun x => { x with measured := some meas, verification := v })
            match v, s.judgeTarget m with
            | .mismatch, .pass => s.holdMove m .mismatch
            | .mismatch, _ => (s.withdrawTarget m).holdMove m .mismatch
            | _, .pass => s.enterCarrying m
            | _, j => s.holdUnfit m j
        | _, _ => s
      | .unstable => if r.retry = 0 then s.startCheck m 1 else s.holdMove m .unsettled
      | .fault => s.holdMove m .weighFault
      | .saturated => s.holdMove m .weighFault
      | .cancelled => s
      | .switchClosed => s

/-- Whether a weigh point is unloaded as step 4 of ZERO requires (R146, R148). -/
def State.unloaded (s : State) : WeighPoint → Bool
  | .hoist n => match s.findCrane n with | some c => c.load == .free | none => true
  | .front b => match s.findBay b with | some x => x.presence == .empty | none => true
  | .rear b => match s.findBay b with | some x => x.presence == .empty | none => true

/-- Whether a shifted sample lies within −2^23 … 2^23 − 1 (R136, R148). -/
def zeroInRange (v : Int) : Bool := decide (-(2 ^ 23) ≤ v ∧ v ≤ 2 ^ 23 - 1)

/-- Stores new calibrations into the channels of a weigh point (R144, R148, R149). -/
def State.storeCalib (s : State) (chans : List Nat) (new : List Calib) : State :=
  { s with calib := (chans.zip new).foldl (fun l p => l.set p.1 p.2) s.calib }

/-- The Calibration Store judges an ended ZERO (R148). -/
def State.judgeZero (s : State) (r : ResultRecord) : State × ResultRecord :=
  match r.outcome, r.sample with
  | .stable, some g =>
    if !s.unloaded r.point then (s, { r with verdict := some .wrongState })
    else if !g.chans.all (fun c => zeroInRange c.shifted) then (s, { r with verdict := some .outOfRange })
    else
      let chans := r.point.channels
      let new := (chans.zip g.chans).map (fun p =>
        { s.calibOf p.1 with zero := p.2.shifted, count := bumpCount (s.calibOf p.1).count })
      (s.storeCalib chans new,
        { r with verdict := some .stored, stored := some (.zeros (new.map Calib.zero) (new.map Calib.count)) })
  | _, _ => (s, { r with verdict := some .notStored })

/-- The span G′ of R149. -/
def newSpan (mass : Nat) (sum : Int) : Int := roundDivInt ((mass : Int) * 65536) sum

/-- The Calibration Store judges an ended SPAN (R149). -/
def State.judgeSpan (s : State) (r : ResultRecord) : State × ResultRecord :=
  match r.outcome, r.sample with
  | .stable, some g =>
    let sum := (g.chans.map ChanSample.zeroed).sum
    let span := newSpan r.mass sum
    if sum ≤ 0 ∨ span < 1 ∨ 2 ^ 20 < span then (s, { r with verdict := some .outOfRange })
    else
      let chans := r.point.channels
      let new := chans.map (fun ch =>
        { s.calibOf ch with span := span.toNat, count := bumpCount (s.calibOf ch).count })
      (s.storeCalib chans new,
        { r with verdict := some .stored, stored := some (.span span.toNat (new.map Calib.count)) })
  | _, _ => (s, { r with verdict := some .notStored })

/-- The host result slot of a weigh point takes a record: unread, and WEIGH_READY raised (R129). -/
def State.writeSlot (s : State) (r : ResultRecord) : State :=
  (s.updPoint r.point (fun p => { p with slot := some r, unread := true })).raise .weighReady

/-- The host's result: judged by the Calibration Store for ZERO and SPAN, then written to the slot (R129, R148, R149). -/
def State.hostResult (s : State) (r : ResultRecord) : State :=
  match r.purpose with
  | .zero => (s.judgeZero r).1.writeSlot (s.judgeZero r).2
  | .span => (s.judgeSpan r).1.writeSlot (s.judgeSpan r).2
  | _ => s.writeSlot r

/-- Hands one result to its requester (R129). -/
def State.deliver (s : State) (d : Delivery) : State :=
  match d.requester with
  | .move id => s.checkResult id d.result
  | .host => s.hostResult d.result
  | .bay b =>
    match sideOf d.result.point with
    | some (_, side) => if d.result.purpose = .tare then s.tareResult b side d.result else s.placeResult b side d.result
    | none => s

/-! ### The grant (R73, R93) -/

/-- The Move Table takes a grant for the head move (R93): its next state, then ORDER after the WINDOW of the grant, and the
CHECK of a move that enters WEIGHING. -/
def State.takeGrant (s : State) (m : Move) : State :=
  let n := m.crane
  if m.kind = .travel then
    ((s.updMove m.id (fun x => { x with state := .travelling })).refreshWindow n).placeOrder m.id
  else if !s.onHook m then
    ((s.updMove m.id (fun x => { x with state := .toSource })).refreshWindow n).placeOrder m.id
  else
    let resting : Bool := match s.findCrane n with
      | some c => c.load == .resting
      | none => false
    if resting then (s.enterPlaced m (s.lastPosOf n)).placeOrder m.id
    else if ((s.moveCoil m).bind Coil.measured).isSome then (s.enterCarrying m).placeOrder m.id
    else
      let s := s.updMove m.id (fun x => { x with state := .weighing, liftX := some (s.lastPosOf n).1 })
      ((s.refreshWindow n).placeOrder m.id).startCheck m 0

/-- A grant: the owned run of the crane becomes the run of the entry, the entry leaves the list, and the crane becomes the
last crane granted (R73). -/
def State.grant (s : State) (e : ZoneEntry) (r : Run) : State :=
  let s := s.assignRun e.crane (some r)
  let s := { s with arbiter := { s.arbiter with
    requests := s.arbiter.requests.filter (fun x => x.crane != e.crane), lastGranted := e.crane } }
  match s.findMove e.move with
  | some m => s.takeGrant m
  | none => s

/-! ### Conflicts and yields (R79 to R81) -/

/-- Withdraws an entry as a crossing conflict: the move is HELD (CROSSING) and CONFLICT is raised (R79). -/
def State.crossing (s : State) (e : ZoneEntry) : State :=
  let s := { s with arbiter := { s.arbiter with requests := s.arbiter.requests.filter (fun x => x.crane != e.crane) } }
  let s := match s.findMove e.move with
    | some m => s.holdMove m .crossing
    | none => s
  s.raise (.conflict e.crane)

/-- Whether a run holds a zone owned by crane `b`. -/
def ZoneTable.ownedIn (t : ZoneTable) (r : Run) (b : Nat) : Bool :=
  (Run.zones r).any (fun z => match t.zone? z with | some rec => rec.owner == some b | none => false)

/-- Seeks a crossing conflict between two cranes: each has an entry that waits on the other; the entry with the higher arrival
number is withdrawn (R79). -/
def State.conflictPair (s : State) (pair : Nat × Nat) : State :=
  let entry := fun (n : Nat) => s.arbiter.requests.find? (fun e => e.crane == n)
  match s.arbiter.table, entry pair.1, entry pair.2 with
  | some t, some a, some b =>
    match a.run, b.run with
    | some ra, some rb =>
      if t.ownedIn ra b.crane ∧ t.ownedIn rb a.crane then
        (if b.arrival < a.arrival then s.crossing a else s.crossing b)
      else s
    | _, _ => s
  | _, _, _ => s

/-- The conflict search of a pass (R79). -/
def State.conflicts (s : State) : State := [(1, 2), (1, 3), (2, 3)].foldl State.conflictPair s

/-- A new move record with its marks clear (R89, R90, R91). -/
def newMove (id : Nat) (kind : MoveKind) (origin : Origin) (crane : Nat) (urgent : Bool) (coil : Option Ident)
    (source : Option Loc) (target : Target) (auto : Bool) : Move :=
  { id := id, kind := kind, origin := origin, crane := crane, urgent := urgent, coil := coil, source := source,
    target := some target, autoTarget := auto, state := .queued, hold := none, pendingMark := false, offTarget := false,
    liftX := none, liftPeak := none, outcome := none, misfit := false, gripTaken := false }

/-- Creates the yield TRAVEL of an idle crane, unless the table is full (R91). -/
def State.makeYield (s : State) (b : Nat) (x : Int) : State :=
  if Config.moveCapacity ≤ s.moves.recs.length then s
  else (s.addMove (newMove s.nextMoveId .travel .yield b false none none (.runway x) false) .head).promote b

/-- Whether an entry is blocked only by crane `b` (R80). -/
def State.blockedOnlyBy (s : State) (t : ZoneTable) (e : ZoneEntry) (r : Run) (b : Nat) : Bool :=
  b != e.crane && t.ownedIn r b && (s.runStop t e (some b) r).isNone

/-- Whether a crane is idle: TRACKING with no live move (R80). -/
def State.idle (s : State) (b : Nat) : Bool := s.isTracking b && (s.queue b).isEmpty

/-- Seeks a yield of crane `b` for an entry (R80, R81). -/
def State.seekYieldOf (s : State) (e : ZoneEntry) (b : Nat) : State :=
  match s.arbiter.table, e.run, s.findCrane b with
  | some t, some r, some c =>
    if s.blockedOnlyBy t e r b && s.idle b then
      let x : Int := if e.crane < b then t.stopOf r.2 + c.halfLength else t.startOf r.1 - c.halfLength
      let last := (s.lastPosOf b).1
      if (if e.crane < b then x ≤ last else last ≤ x) then s
      else if (if e.crane < b then (t.length : Int) < x + c.halfLength else x - c.halfLength < 0) then s.crossing e
      else s.makeYield b x
    else s
  | _, _, _ => s

/-- Seeks a yield for an entry that still waits (R80). -/
def State.seekYield (s : State) (e : ZoneEntry) : State :=
  [1, 2, 3].foldl (fun s b => if s.arbiter.requests.any (fun x => x.move == e.move) then s.seekYieldOf e b else s) s

/-- The yield search of a pass, over the remaining entries of TRACKING cranes in policy order (R80). -/
def State.yields (s : State) : State :=
  if s.settings.autoYield then
    (s.arbiter.ordered (s.arbiter.requests.filter (fun e => s.isTracking e.crane))).foldl State.seekYield s
  else s

/-! ### The examination (R74) -/

/-- Judges one entry and grants it where it meets R72; the Bool says whether any entry was granted so far. -/
def State.judgeEntry (acc : State × Bool) (e : ZoneEntry) : State × Bool :=
  match acc.1.entryStop e, e.run with
  | none, some r => (acc.1.grant e r, true)
  | _, _ => acc

/-- One pass: runs computed again, entries judged in policy order, then conflicts and yields (R74). DEDUCED, the order fixed as
the judging starts, notes/assumptions/52.md. -/
def State.pass (s : State) : State × Bool :=
  let s := { s with arbiter := { s.arbiter with requests := s.arbiter.requests.map s.refreshEntry } }
  let order := s.arbiter.ordered (s.arbiter.requests.filter (fun e => s.isTracking e.crane))
  let (s, granted) := order.foldl State.judgeEntry (s, false)
  (s.conflicts.yields, granted)

/-- Passes until one grants nothing, at most `k` (R74). -/
def State.passes : Nat → State → State
  | 0, s => s
  | k + 1, s =>
    match s.pass with
    | (s', true) => State.passes k s'
    | (s', false) => s'

/-- An examination: at most four passes (R74). -/
def State.examination (s : State) : State :=
  State.passes 4 { s with arbiter := { s.arbiter with examine := false } }

/-! ### The end of an event -/

/-- Hands on results and makes the examinations that are due, in turn, at most `k` of them.
DESIGN CHOICE, the bound, notes/assumptions/34.md; DEDUCED, the order of the results, notes/assumptions/77.md, and one
examination for all causes of an event, after its results, notes/assumptions/82.md. -/
def State.follow : Nat → State → State
  | 0, s => s
  | k + 1, s =>
    match s.weigh.outbox with
    | d :: rest => State.follow k (State.deliver { s with weigh := { s.weigh with outbox := rest } } d)
    | [] => if s.arbiter.examine then State.follow k s.examination else s

/-- How much can follow within one event: each result is handed on once, each may place one request more, and examinations
end because each yield makes an idle crane busy. -/
def State.followBound (s : State) : Nat :=
  2 * (s.weigh.outbox.length + (s.weigh.queue.map (fun r => r.requesters.length)).sum) + 64

/-- Carries an event to its end: what follows from it, then the predictions (R171) and the BAY reasons (R58) as they stand. -/
def State.settle (s : State) : State := ((s.follow s.followBound).refreshPredictions).judgeBays

end Sys2Proof.Machine
end

