-- ==== Sys2Proof/Machine/Serve.lean ====
section
/-! DEFINITION. Taking a request of the yard link: the repeat check, the owner's answer, the response with its attention mark,
and what the port keeps (R178); and taking an event of another line. -/

namespace Sys2Proof.Machine

/-- The outcome of every command: the unit goes on. -/
abbrev Result := Host.Outcome State Fault Refusal

/-- The port keeps a request and its response, and puts the response on the line (R178). -/
def State.respond (s : State) (i : Instr) (a : Answer) : State :=
  let r : Response := { answer := a, attention := s.port.attention }
  { s with port := { s.port with kept := some { request := i, response := r }, out := some r } }

/-- Takes a request: one equal to the kept one in sequence, type and body is not taken again, and its kept response is sent
again; any other reaches its owner, whose answer is framed (R178). DESIGN CHOICE, notes/assumptions/36.md. -/
def State.serve (s : State) (i : Instr) (act : State → State × Answer) : Result :=
  let s := { s with port := { s.port with partialFrame := [] } }
  match s.port.kept with
  | some k =>
    if k.request = i then .next { s with port := { s.port with out := some k.response } }
    else .next ((act s).1.respond i (act s).2)
  | none => .next ((act s).1.respond i (act s).2)

/-- Takes a request that changes nothing but is answered from the state as it stands. -/
def State.reply (s : State) (i : Instr) (answer : State → Answer) : Result := s.serve i (fun s => (s, answer s))

/-- An action refused by a status where there is one. -/
def refusedBy (st : Option Status) (s : State) (act : State × Answer) : State × Answer :=
  match st with
  | some st => (s, Answer.refuse st)
  | none => act

/-- An event of a line other than the yard link, carried to its end. -/
def State.event (s : State) (act : State → State) : Result := .next (act s.beginEvent).settle

/-- An action of a request carried to its end. -/
def State.effect (s : State) (act : State → State) (a : Answer) : State × Answer := ((act s.beginEvent).settle, a)

/-- An action of a request carried to its end, with the answer formed from the state after it (R178). -/
def State.effectWith (s : State) (act : State → State) (a : State → Answer) : State × Answer :=
  let s' := (act s.beginEvent).settle
  (s', a s')

/-- A refusal by a status, naming a field where the status is one that names an item (R178). -/
def refuseField (st : Status) (f : FieldName) : Answer :=
  match st with
  | .outOfRange => Answer.refuseItem .outOfRange (.field f)
  | st => Answer.refuse st

/-- An action refused by a status where there is one, an OUT_OF_RANGE naming the field (R178). -/
def refusedIn (f : FieldName) (st : Option Status) (s : State) (act : State × Answer) : State × Answer :=
  match st with
  | some st => (s, refuseField st f)
  | none => act

end Sys2Proof.Machine
end

