-- ==== Sys2Proof/Machine/MoveRequests.lean ====
section
/-! DEFINITION. The requests on the Move Table: MOVE, PARK, RESUME, ACCEPT, RETARGET, ABORT, MOVES, DISCARD (chapter 5). -/

namespace Sys2Proof.Machine

/-! ### What may be named (R88, R107) -/

/-- A bay outside 1 to 4 or a cradle outside 1 to 6 in a named target (R88 step 3). DEDUCED, notes/assumptions/29.md. -/
def targetOutOfRange : MoveTarget → Option FieldName
  | .named (.cradle b c) => if !inRange 1 4 b then some .bay else if !inRange 1 6 c then some .cradle else none
  | _ => none

/-- Whether the layout defines what a target names: a place, or the bay of a cradle (R88 step 4). -/
def State.targetDefined (s : State) : MoveTarget → Bool
  | .named (.cradle b _) => (s.findBay b).isSome
  | .named p => (s.findPlace p).isSome
  | .auto => true

/-! ### Plan order (R170) -/

/-- The bay a location is on a cradle of. -/
def Loc.cradleBay : Loc → Option Nat
  | .place (.cradle b _) => some b
  | _ => none

/-- Whether a move is live with its source at a cradle of bay `b`. -/
def Move.fromBay (m : Move) (b : Nat) : Bool := m.live && (m.source.bind Loc.cradleBay) == some b

/-- Whether some entry of the plan is MOVING (R167). -/
def Bay.someMoving (x : Bay) : Bool := x.plan.any (fun e => match e.status with | .moving _ => true | _ => false)

/-- The first WAITING entry of the plan (R170). -/
def Bay.firstWaiting (x : Bay) : Option PlanEntry := x.plan.find? (fun e => e.status == .waiting)

/-- The plan-order check for a move to cradle `k` of a bay (R170). -/
def State.orderTo (s : State) (x : Bay) (coil : Ident) (k : Nat) : Bool :=
  (match x.firstWaiting with | some e => e.coil == coil && e.cradle == k | none => false) && !x.someMoving &&
    !s.moves.recs.any (fun m => m.fromBay x.cfg.num && !s.onHook m)

/-- The last PLACED entry of the plan (R170). -/
def Bay.lastPlaced (x : Bay) : Option PlanEntry := (x.plan.filter (fun e => e.status == .placed)).getLast?

/-- The plan-order check for a move from a cradle of a bay (R170). -/
def State.orderFrom (s : State) (x : Bay) (coil : Ident) : Bool :=
  (match x.lastPlaced with | some e => e.coil == coil | none => false) && !x.someMoving &&
    !s.moves.recs.any (fun m => m.fromBay x.cfg.num)

/-! ### Source and target checks (R88 steps 11 and 12) -/

/-- The source checks of a MOVE (R88 step 11). -/
def State.sourceRefusal (s : State) (c : Coil) : Option Status :=
  match c.loc with
  | .place (.floor r g) => if s.trapped r g then some .trapped else none
  | .place (.cradle b _) =>
    match s.findBay b with
    | some x =>
      if x.phase = .dismissed then some .bayState
      else if !s.orderFrom x c.id then some .planOrder
      else none
    | none => none
  | _ => none

/-- The checks of a cradle target (R88 step 12). -/
def State.cradleRefusal (s : State) (c : Coil) (b k : Nat) : Option Status :=
  match s.findBay b with
  | none => some .unknown
  | some x =>
    if !x.phase.loads then some .bayState
    else if x.hold.isSome then some .onHold
    else if c.hold then some .coilHeld
    else if (x.cradleDef k).isNone then some .unknown
    else if !s.orderTo x c.id k then some .planOrder
    else if !s.placeOpen (.cradle b k) then some .placeBusy
    else if x.overWith (s.countedAt x c k) then some .axleLimit
    else none

/-- The checks of a place target, the source counted as OUTGOING (R33, R88 step 12). -/
def State.placeTargetRefusal (s : State) (source : Option PlaceRef) (c : Coil) (p : PlaceRef) : Option Status :=
  if !s.placeOpen p then some .placeBusy
  else if !s.fits source p c then some .unfit
  else none

/-- The target checks, answering the place chosen and the auto-target mark (R88 step 12, R107). -/
def State.chooseTarget (s : State) (source : Option PlaceRef) (c : Coil) (t : MoveTarget) : Except Status (PlaceRef × Bool) :=
  match t with
  | .named (.cradle b k) =>
    match s.cradleRefusal c b k with
    | some st => .error st
    | none => .ok (.cradle b k, false)
  | .named p =>
    match s.placeTargetRefusal source c p with
    | some st => .error st
    | none => .ok (p, false)
  | .auto =>
    match s.refX c with
    | none => .error .noPosition
    | some x => match s.candidates source c x with
      | [] => .error .noPlace
      | k :: _ => .ok (k.place, true)

/-! ### MOVE (R88, R89) -/

/-- Whether the hook of crane `n` holds a coil other than `id` that no live move names (R88 step 7). -/
def State.hookTaken (s : State) (n : Nat) (id : Ident) : Bool :=
  s.coils.any (fun c => c.loc == .hook n && c.move.isNone && c.id != id)

/-- The checks of MOVE on the crane's queue and the table (R88 steps 8 to 10). -/
def State.queueRefusal (s : State) (crane : Nat) (urgent : Bool) : Option Status :=
  if urgent && (s.queue crane).any Move.urgent then some .urgentBusy
  else if Config.queueCapacity ≤ (s.queue crane).length then some .queueFull
  else if Config.moveCapacity ≤ s.moves.recs.length then some .tableFull
  else none

/-- The checks of MOVE on its coil (R88 steps 5 to 7). -/
def State.subjectRefusal (s : State) (c : Coil) (crane : Nat) : Option Status :=
  if c.move.isSome then some .busy
  else match c.loc with
    | .hook n => if n = crane then (if s.hookTaken crane c.id then some .onHook else none) else some .wrongCrane
    | _ => if s.hookTaken crane c.id then some .onHook else none

/-- The checks of MOVE up to the coil, crane and place named (R88 steps 1 to 4). -/
def State.namedRefusal (s : State) (coil : Ident) (t : MoveTarget) (crane : Nat) : Option Answer :=
  if s.port.mode = .setup then some (Answer.refuse .wrongMode)
  else match s.coilRefusal coil with
    | some st => some (Answer.refuse st)
    | none =>
      if !inRange 1 3 crane then some (refuseField .outOfRange .crane)
      else match targetOutOfRange t with
        | some f => some (refuseField .outOfRange f)
        | none => if !s.craneDefined crane || !s.targetDefined t then some (Answer.refuse .unknown) else none

/-- Reserves the source of a move: a place or cradle becomes OUTGOING (R33, R166). -/
def State.reserveSource (s : State) (id : Nat) (c : Coil) : State :=
  match c.loc with
  | .place p => s.setPlace p (.outgoing id c.id)
  | _ => s

/-- Where a new move stands (R86). -/
def State.standing (s : State) (crane : Nat) (urgent : Bool) : Standing :=
  if (s.queue crane).isEmpty then .head
  else if !urgent then .tail
  else if s.headHookEmpty crane then .head
  else .second

/-- A new record takes its place in its crane's queue: a displaced head is treated by R87, and a new head acts (R86, R92). -/
def State.joinQueue (s : State) (m : Move) (st : Standing) : State :=
  let former := s.head m.crane
  let s := s.addMove m st
  if st = .head then
    let s := match former with
      | some h => s.displace h
      | none => s
    s.promote m.crane
  else s

/-- Accepts a MOVE (R89). -/
def State.acceptMove (s : State) (c : Coil) (p : PlaceRef) (auto urgent : Bool) (crane : Nat) : State :=
  let id := s.nextMoveId
  let m := newMove id .carry .host crane urgent (some c.id) (some c.loc) (.place p) auto
  let st := s.standing crane urgent
  let s := s.updCoil c.id (fun x => { x with move := some id })
  let s := (s.reserveSource id c).reserveTarget id c.id p
  s.joinQueue m st

/-- The answer to an accepted MOVE or PARK (R89, R90). -/
def State.acceptedAnswer (s : State) (id : Nat) (target : Option PlaceRef) : Answer :=
  Answer.ok (.accepted id target ((s.findMove id).elim 0 s.queuePlace))

/-- MOVE past the checks of R88 steps 1 to 4. -/
def State.moveCoilTo (s : State) (c : Coil) (t : MoveTarget) (crane : Nat) (urgent : Bool) : State × Answer :=
  refusedBy (s.subjectRefusal c crane) s
    (refusedBy (s.queueRefusal crane urgent) s
      (refusedBy (s.sourceRefusal c) s
        (match s.chooseTarget c.loc.place? c t with
        | .error st => (s, Answer.refuse st)
        | .ok (p, auto) =>
          s.effectWith (fun s => s.acceptMove c p auto urgent crane) (fun s' => s'.acceptedAnswer s.nextMoveId (some p)))))

/-- MOVE: a CARRY move of a coil to a place, a cradle, or where the slot finder chooses (R88, R89). -/
def execMove (seq : Nat) (coil : Ident) (target : MoveTarget) (crane : Nat) (urgent : Option Bool) (s : State) : Result :=
  s.serve (.move seq coil target crane urgent) (fun s =>
    match s.namedRefusal coil target crane with
    | some a => (s, a)
    | none => orUnknown (s.findCoil coil) s (fun c => s.moveCoilTo c target crane (urgent.getD false)))

/-! ### PARK (R90) -/

/-- Whether an X is within e to L − e for a crane (R90 step 4). -/
def State.parkInRange (s : State) (c : Crane) (x : Nat) : Bool :=
  match s.arbiter.table with
  | some t => decide (c.halfLength ≤ x) && decide (x + c.halfLength ≤ t.length)
  | none => false

/-- The checks of PARK in their order; none when all pass (R90). -/
def State.parkRefusal (s : State) (crane x : Nat) : Option Answer :=
  if s.port.mode = .setup then some (Answer.refuse .wrongMode)
  else if !inRange 1 3 crane then some (refuseField .outOfRange .crane)
  else match s.findCrane crane with
    | none => some (Answer.refuse .unknown)
    | some c =>
      if !s.parkInRange c x then some (refuseField .outOfRange .x)
      else (s.queueRefusal crane false).map Answer.refuse

/-- PARK: a TRAVEL move of a crane to an X (R90). -/
def execPark (seq : Nat) (crane x : Nat) (s : State) : Result :=
  s.serve (.park seq crane x) (fun s =>
    match s.parkRefusal crane x with
    | some a => (s, a)
    | none =>
      s.effectWith
        (fun s => s.joinQueue (newMove s.nextMoveId .travel .host crane false none none (.runway x) false)
          (s.standing crane false))
        (fun s' => s'.acceptedAnswer s.nextMoveId none))

/-! ### RESUME (R105) -/

/-- Whether RESUME takes a held move with this reason (R105). -/
def HoldReason.resumable : HoldReason → Bool
  | .crossing => true
  | .unsettled => true
  | .weighFault => true
  | .strayGrip => true
  | _ => false

/-- Whether the load of a crane is RESTING. -/
def State.resting (s : State) (n : Nat) : Bool := (s.findCrane n).any (fun c => c.load == .resting)

/-- The refusals of RESUME for a record that stands (R105). -/
def State.resumeRefusal (s : State) (m : Move) : Option Status :=
  if m.state = .held ∧ m.hold.any HoldReason.resumable = true ∧ m.target.isSome = true then
    if (m.hold = some .unsettled ∨ m.hold = some .weighFault) ∧ s.resting m.crane = true then some .wrongState else none
  else some .wrongState

/-- A move goes for runway again: by R92 if it is head, else it enters PENDING (R105, R107). -/
def State.sendOn (s : State) (m : Move) : State :=
  if s.isHead m then (s.enterZones m).refreshWindow m.crane
  else s.updMove m.id (fun x => { x with state := .pending, hold := none })

/-- RESUME of a move held for STRAY_GRIP (R105). -/
def State.resumeGrip (s : State) (m : Move) : State :=
  if s.isHead m then
    ((s.updMove m.id (fun x => { x with state := .toSource, hold := none })).refreshWindow m.crane).placeOrder m.id
  else s.updMove m.id (fun x => { x with state := .pending, hold := none })

/-- The effect of RESUME by the hold reason (R105). DEDUCED, notes/assumptions/47.md. -/
def State.resumeMove (s : State) (m : Move) : State :=
  match m.hold with
  | some .crossing => s.sendOn m
  | some .strayGrip => s.resumeGrip m
  | _ => s.enterWeighing m 0

/-- RESUME: sends a held move on (R105). -/
def execResume (seq : Nat) (id : Nat) (s : State) : Result :=
  s.serve (.resume seq id) (fun s =>
    orUnknown (s.findMove id) s (fun m =>
      refusedBy (s.resumeRefusal m) s (s.effect (fun s => s.resumeMove m) (Answer.ok .none))))

/-! ### ACCEPT (R106) -/

/-- The refusal of ACCEPT for a record that stands (R106). -/
def Move.acceptRefusal (m : Move) : Option Status :=
  if m.state = .held ∧ (m.hold = some .mismatch ∨ m.hold = some .weighFault) then none else some .wrongState

/-- ACCEPT takes the coil's weight as it stands and judges the destination (R102, R106). -/
def State.acceptWeight (s : State) (m : Move) : State :=
  match s.judgeTarget m with
  | .pass => if s.resting m.crane then s.enterPlaced m (s.lastPosOf m.crane) else s.enterCarrying m
  | j => s.holdUnfit m j

/-- ACCEPT: takes the weight of a move held for MISMATCH or WEIGH_FAULT (R106). -/
def execAccept (seq : Nat) (id : Nat) (s : State) : Result :=
  s.serve (.accept seq id) (fun s =>
    orUnknown (s.findMove id) s (fun m =>
      refusedBy m.acceptRefusal s (s.effect (fun s => s.acceptWeight m) (Answer.ok .none))))

/-! ### RETARGET (R107) -/

/-- Whether a hold reason stays through RETARGET because the weight is unresolved (R107). -/
def HoldReason.weightOpen : HoldReason → Bool
  | .mismatch => true
  | .weighFault => true
  | .unsettled => true
  | _ => false

/-- The target RETARGET asks for; AUTO where it is omitted and the auto-target mark is set (R107). -/
def Move.wanted (m : Move) (t : Option MoveTarget) : Option MoveTarget :=
  match t with
  | some t => some t
  | none => if m.autoTarget then some .auto else none

/-- Gives a held move its new target (R107). -/
def State.retargetMove (s : State) (m : Move) (c : Coil) (p : PlaceRef) (auto : Bool) : State :=
  let s := (s.freeTarget m).reserveTarget m.id c.id p
  let s := s.updMove m.id (fun x => { x with target := some (.place p), autoTarget := auto, offTarget := false })
  if m.hold.any HoldReason.weightOpen then s
  else s.sendOn { m with target := some (.place p), autoTarget := auto, offTarget := false }

/-- RETARGET past its checks of the move and of what it names (R107). DEDUCED, the old target still reserved while the new one
is judged, notes/assumptions/54.md. -/
def State.retargetTo (s : State) (m : Move) (c : Coil) (t : MoveTarget) : State × Answer :=
  match targetOutOfRange t with
  | some f => (s, refuseField .outOfRange f)
  | none =>
    if !s.targetDefined t then (s, Answer.refuse .unknown)
    else match s.chooseTarget (m.source.bind Loc.place?) c t with
      | .error st => (s, Answer.refuse st)
      | .ok (p, auto) => s.effect (fun s => s.retargetMove m c p auto) (Answer.ok (.target p))

/-- Whether RETARGET takes a move: HELD, with its coil on the hook or its target withdrawn (R107). -/
def State.retargetable (s : State) (m : Move) : Bool := m.state == .held && (s.onHook m || m.target.isNone)

/-- RETARGET: a new target for a held move (R107). -/
def execRetarget (seq : Nat) (id : Nat) (target : Option MoveTarget) (s : State) : Result :=
  s.serve (.retarget seq id target) (fun s =>
    orUnknown (s.findMove id) s (fun m =>
      if !s.retargetable m then (s, Answer.refuse .wrongState)
      else match m.wanted target with
        | none => (s, refuseField .outOfRange .target)
        | some t => orUnknown (s.moveCoil m) s (fun c => s.retargetTo m c t)))

/-! ### ABORT (R108) -/

/-- Whether a move waits before its first order: QUEUED, PENDING or ZONES. -/
def MoveState.waiting (st : MoveState) : Bool := st == .queued || st == .pending || st == .zones

/-- Whether the source of a move is a hook. -/
def Move.fromHook (m : Move) : Bool :=
  match m.source with
  | some (.hook _) => true
  | _ => false

/-- The refusal of ABORT for a record that stands: a coil on the hook may be left there only by a move whose source is HOOK
and that still waits for runway (R108). -/
def State.abortRefusal (s : State) (m : Move) : Option Status :=
  if !m.live then some .wrongState
  else if s.onHook m && !(m.fromHook && m.state.waiting) then some .onHook
  else none

/-- Whether ABORT leaves the tongs round a coil: GRIPPED, or HELD with the tongs CLOSED from a grip that R95 took
(R59, R108). -/
def State.leavesGrip (s : State) (m : Move) : Bool :=
  m.state == .gripped ||
    (m.state == .held && m.gripTaken && (s.findCrane m.crane).any (fun c => c.tongs == .closed))

/-- Ends a move ABORTED (R103, R108). DESIGN CHOICE, the CANCEL before the WINDOW on the link, notes/assumptions/51.md. -/
def State.abortMove (s : State) (m : Move) : State :=
  let s := if s.leavesGrip m then s.addStrayGrip m.crane else s
  let s := if m.state = .toSource ∨ m.state = .travelling then s.placeMessage m.crane (.cancel m.id) else s
  (s.settlePlaces m .aborted).finishMove m .aborted false

/-- ABORT: ends a move whose coil is not on the hook (R108). -/
def execAbort (seq : Nat) (id : Nat) (s : State) : Result :=
  s.serve (.abort seq id) (fun s =>
    orUnknown (s.findMove id) s (fun m =>
      refusedBy (s.abortRefusal m) s (s.effect (fun s => s.abortMove m) (Answer.ok .none))))

/-! ### MOVES and DISCARD (R110) -/

/-- The CHECK of a move in the weigh queue. -/
def State.checkOf (s : State) (id : Nat) : Option WeighRequest :=
  s.weigh.queue.find? (fun r => r.purpose == .check && r.requesters.contains (.move id))

/-- A move as MOVES returns it (R110). -/
def State.moveView (s : State) (m : Move) : MoveView :=
  let check := if m.state = .weighing then s.checkOf m.id else none
  { move := m, queuePlace := s.queuePlace m,
    check := match check with
      | some r => if r.isRunning then .running else .waiting
      | none => .none
    checkRetry := match check with
      | some r => r.retry
      | none => 0 }

/-- The records of one crane: live moves from head to tail, then ended records by identifier (R110). -/
def State.craneMoves (s : State) (n : Nat) : List Move :=
  s.queue n ++ (s.moves.recs.filter (fun m => m.crane == n && !m.live)).insertionSort (fun a b => a.id ≤ b.id)

/-- The answer of MOVES (R110). DEDUCED, for a crane number outside 1 to 3, notes/assumptions/58.md. -/
def State.movesAnswer (s : State) : MovesTarget → Answer
  | .one id => match s.findMove id with
    | some m => Answer.ok (.moves [s.moveView m] none)
    | none => Answer.refuse .unknown
  | .crane n => if s.craneDefined n then Answer.ok (.moves ((s.craneMoves n).map s.moveView) none) else Answer.refuse .unknown
  | .all => Answer.ok (.moves (([1, 2, 3].flatMap s.craneMoves).map s.moveView) (some s.moves.recs.length))

/-- MOVES: move records (R110). -/
def execMoves (seq : Nat) (what : MovesTarget) (s : State) : Result :=
  s.reply (.moves seq what) (fun s => s.movesAnswer what)

/-- The table without the records that `p` finds. -/
def State.dropMoves (s : State) (p : Move → Bool) : State :=
  { s with moves := { s.moves with recs := s.moves.recs.filter (fun m => !p m) } }

/-- DISCARD: removes an ended record, or every ended record (R110). DEDUCED, notes/assumptions/43.md. -/
def execDiscard (seq : Nat) (id : Option Nat) (s : State) : Result :=
  s.serve (.discard seq id) (fun s =>
    match id with
    | none => (s.dropMoves (fun m => !m.live), Answer.ok (.count (s.moves.recs.filter (fun m => !m.live)).length))
    | some id => orUnknown (s.findMove id) s (fun m =>
        if m.live then (s, Answer.refuse .wrongState) else (s.dropMoves (fun x => x.id == m.id), Answer.ok .none)))

end Sys2Proof.Machine
end

