-- ==== Sys2Proof/Machine/BayRequests.lean ====
section
/-! DEFINITION. The requests on the Bay Units: UNHOLD, DISMISS, BAY, ANNOUNCE, REPLAN (chapters 8 and 9). -/

namespace Sys2Proof.Machine

/-! ### Allocations (R10) -/

/-- Clears the allocation of a coil. -/
def State.clearAlloc (s : State) (id : Ident) : State := s.updCoil id (fun c => { c with alloc := none })

/-- Allocates coils to bay `b`, at plan entry indices from `first` upward (R10). -/
def State.allocateFrom (s : State) (b : Nat) : Nat → List Ident → State
  | _, [] => s
  | k, id :: rest => (s.updCoil id (fun c => { c with alloc := some { bay := b, index := k } })).allocateFrom b (k + 1) rest

/-- The plan entries with a status. -/
def Bay.waitingEntries (x : Bay) : List PlanEntry := x.plan.filter (fun e => e.status == .waiting)

/-- The PLACED entries of the plan. -/
def Bay.placedEntries (x : Bay) : List PlanEntry := x.plan.filter (fun e => e.status == .placed)

/-! ### UNHOLD (R160) -/

/-- The refusal of UNHOLD for a defined bay (R160). -/
def State.unholdRefusal (s : State) (x : Bay) : Option Status :=
  if x.hold = none ∨ x.hold = some .planLimit ∨ x.hold = some .tareLimit ∨ s.platformFault x.cfg.num = true then
    some .wrongState
  else none

/-- UNHOLD: clears the hold of a bay (R160). -/
def execUnhold (seq : Nat) (bay : Nat) (s : State) : Result :=
  s.serve (.unhold seq bay) (fun s =>
    refusedIn .bay (s.bayRefusal bay) s
      (orUnknown (s.findBay bay) s (fun x =>
        refusedBy (s.unholdRefusal x) s
          ((s.updBay bay (fun x => { x with hold := none })).raise (.bayChange bay), Answer.ok .none))))

/-! ### DISMISS (R161) -/

/-- The refusal of DISMISS for a defined bay (R161). -/
def State.dismissRefusal (s : State) (x : Bay) : Option Status :=
  if x.phase = .none ∨ x.phase = .dismissed then some .bayState
  else if x.someMoving || s.moves.recs.any (fun m => m.fromBay x.cfg.num) then some .busy
  else none

/-- DISMISS in EXPECTING withdraws the announcement (R161). DEDUCED, notes/assumptions/41.md. -/
def State.withdrawAnnouncement (s : State) (x : Bay) : State :=
  let b := x.cfg.num
  let s := (x.plan.map PlanEntry.coil).foldl State.clearAlloc s
  (s.updBay b (fun x => { x with truck := none, cradles := [], plan := [], planCheck := none })).setPhase b .none

/-- DISMISS in UNANNOUNCED to LOADED: WAITING entries are dropped, TARE requests withdrawn, a placement round in progress
abandoned (R161, R159, R174). The allocations of the PLACED coils stand, index and all. DEDUCED, notes/assumptions/59.md. -/
def State.dismissTruck (s : State) (x : Bay) : State :=
  let b := x.cfg.num
  let s := (x.waitingEntries.map PlanEntry.coil).foldl State.clearAlloc s
  let s := s.updBay b (fun x => { x with plan := x.plan.filter (fun e => e.status != .waiting) })
  let s := if x.phase = .taring then
      (s.withdrawBayRequests b .tare).updBay b (fun x => { x with frontCandidate := none, rearCandidate := none })
    else s
  (s.abandonRound b).setPhase b .dismissed

/-- DISMISS: tells the truck of a bay to leave (R161). -/
def execDismiss (seq : Nat) (bay : Nat) (s : State) : Result :=
  s.serve (.dismiss seq bay) (fun s =>
    refusedIn .bay (s.bayRefusal bay) s
      (orUnknown (s.findBay bay) s (fun x =>
        refusedBy (s.dismissRefusal x) s
          (s.effect (fun s => if x.phase = .expecting then s.withdrawAnnouncement x else s.dismissTruck x)
            (Answer.ok (.entries x.waitingEntries.length))))))

/-! ### BAY (R163) -/

/-- A bay as BAY returns it (R163). -/
def State.bayView (s : State) (x : Bay) : BayView :=
  { bay := x, frontLevel := s.levelOf x.cfg.num .front, rearLevel := s.levelOf x.cfg.num .rear,
    lines := (nth? s.lines x.cfg.num).getD { chock := false, clear := false } }

/-- The answer of BAY for one bay or for all (R163). -/
def State.bayAnswer (s : State) : Option Nat → Answer
  | none => Answer.ok (.bays (s.bays.map s.bayView))
  | some b =>
    match s.bayRefusal b with
    | some st => refuseField st .bay
    | none => Answer.ok (.bays ((s.findBay b).toList.map s.bayView))

/-- BAY: the records of one bay or of all (R163). -/
def execBay (seq : Nat) (num : Option Nat) (s : State) : Result := s.reply (.bay seq num) (fun s => s.bayAnswer num)

/-! ### ANNOUNCE (R168) -/

/-- The first item of a list with its number, from 1, for which `f` answers. -/
def firstNumbered {α β : Type} (f : Nat → α → Option β) (l : List α) : Option β :=
  l.zipIdx.findSome? (fun xi => f (xi.2 + 1) xi.1)

/-- A field out of its range, or nothing. -/
def rangeItem (lo hi v : Nat) (it : Item) : Option Item := if inRange lo hi v then none else some it

/-- The first truck field out of its range, in the order of R165. -/
def truckOutOfRange (t : Truck) : Option Item :=
  (rangeItem 4000 14000 t.bogieDist (.field .bogieDistance)).or <|
  (rangeItem 1 6 t.cradles.length (.field .cradles)).or <|
  (firstNumbered (fun n (d : CradleDef) =>
    (rangeItem 100 (t.bogieDist - 100) d.dist (.thing .cradle n (some .distance))).or
      (rangeItem 500 2200 d.maxWidth (.thing .cradle n (some .maxWidth)))) t.cradles).or <|
  (rangeItem 2800 4500 t.wheelbase (.field .wheelbase)).or <|
  (rangeItem 0 (min (t.wheelbase - 1) 1000) t.fifthWheel (.field .fifthWheel)).or <|
  (rangeItem 300 700 t.steerShare (.field .steerShare)).or <|
  (rangeItem 1000 60000 t.steerLimit (.field .steerLimit)).or <|
  (rangeItem 1000 60000 t.driveLimit (.field .driveLimit)).or <|
  (rangeItem 1000 60000 t.bogieLimit (.field .bogieLimit)).or <|
  (rangeItem 1000 150000 t.grossLimit (.field .grossLimit))

/-- The first cradle whose distance does not rise (R165, R168 step 5). -/
def cradleNotRising (l : List CradleDef) : Option Item :=
  firstNumbered (fun n (p : CradleDef × CradleDef) => if p.1.dist < p.2.dist then none else some (.thing .cradle (n + 1) none))
    (l.zip l.tail)

/-- The first cradle whose X does not lie in the bay's zone (R63, R168 step 6). -/
def State.cradleOutside (s : State) (x : Bay) (l : List CradleDef) : Option Item :=
  firstNumbered (fun n (d : CradleDef) =>
    if (s.arbiter.table.bind (fun t => t.zoneAt (x.cradleX d))) = some x.cfg.zone then none
    else some (.thing .cradle n none)) l

/-- The checks of a plan entry that concern its coil; `b` is the bay whose own allocations do not refuse it
(R168 step 7, R169 step 6). -/
def State.entryCoilRefusal (s : State) (coil : Ident) (width : Nat) (own : Option Nat) : Option Status :=
  match s.coilRefusal coil with
  | some st => some st
  | none => match s.findCoil coil with
    | none => some .unknown
    | some c =>
      if c.hold then some .coilHeld
      else if c.alloc.any (fun a => own != some a.bay) then some .allocated
      else if width < c.width then some .unfit
      else none

/-- The checks of one plan entry against the cradles of a truck, the entries before it in the list, and the PLACED entries
(R168 step 7, R169 step 6). DEDUCED, for a cradle 0 at ANNOUNCE, notes/assumptions/60.md. -/
def State.entryRefusal (s : State) (cradles : List CradleDef) (before : List PlanItem) (own : Option Nat) (e : PlanItem) :
    Option Status :=
  match nth? cradles e.cradle with
  | none => some .unknown
  | some d =>
    if before.any (fun k => k.coil == e.coil || k.cradle == e.cradle) then some .invalid
    else s.entryCoilRefusal e.coil d.maxWidth own

/-- The first plan entry that is refused, with its number in the list and its status; a coil or cradle named twice is found at
the later entry (R168, R169). DEDUCED, at REPLAN, notes/assumptions/70.md. -/
def State.planRefusal (s : State) (cradles : List CradleDef) (placed : List PlanItem) (own : Option Nat) (plan : List PlanItem) :
    Option (Nat × Status) :=
  firstNumbered (fun n e => (s.entryRefusal cradles (placed ++ plan.take (n - 1)) own e).map (fun st => (n, st))) plan

/-- The checks of ANNOUNCE on the bay (R168 steps 1 to 3). -/
def State.announceBayRefusal (s : State) (b : Nat) : Option Answer :=
  if s.port.mode = .setup then some (Answer.refuse .wrongMode)
  else match s.bayRefusal b with
    | some st => some (refuseField st .bay)
    | none => match s.findBay b with
      | none => some (Answer.refuse .unknown)
      | some x => if x.phase = .none ∨ x.phase = .unannounced then none else some (Answer.refuse .bayState)

/-- The checks of ANNOUNCE on truck and plan (R168 steps 4 to 7). DEDUCED, notes/assumptions/42.md. -/
def State.announceRefusal (s : State) (x : Bay) (t : Truck) (plan : List PlanItem) : Option Answer :=
  if !identOk t.id then some (Answer.refuse .badIdent)
  else if s.bays.any (fun y => y.cfg.num != x.cfg.num && y.truck.any (fun u => u.id == t.id)) then some (Answer.refuse .duplicate)
  else match (truckOutOfRange t).or (rangeItem 1 6 plan.length (.field .plan)) with
    | some it => some (Answer.refuseItem .outOfRange it)
    | none => match cradleNotRising t.cradles with
      | some it => some (Answer.refuseItem .invalid it)
      | none => match s.cradleOutside x t.cradles with
        | some it => some (Answer.refuseItem .outOfRange it)
        | none => (s.planRefusal t.cradles [] none plan).map (fun p => Answer.refuseItem p.2 (.thing .entry p.1 none))

/-- The phase an accepted ANNOUNCE gives (R155). -/
def Bay.announcedPhase (x : Bay) : Phase :=
  if x.phase = .none ∧ (x.presence = .empty ∨ x.presence = .arriving) then .expecting else .taring

/-- Writes the truck, its cradles and its plan, allocates the coils and changes the phase (R168). -/
def State.announceTruck (s : State) (x : Bay) (t : Truck) (plan : List PlanItem) : State :=
  let b := x.cfg.num
  let s := s.updBay b (fun x =>
    { x with
      truck := some t
      cradles := t.cradles.map (fun _ => { state := .free, blocked := false })
      plan := plan.map (fun e => { coil := e.coil, cradle := e.cradle, status := .waiting })
      predicted := none, frontNet := none, rearNet := none, planCheck := none })
  (s.allocateFrom b 1 (plan.map PlanItem.coil)).setPhase b x.announcedPhase

/-- ANNOUNCE: a truck and its load plan for a bay (R168). -/
def execAnnounce (seq : Nat) (bay : Nat) (truck : Truck) (plan : List PlanItem) (s : State) : Result :=
  s.serve (.announce seq bay truck plan) (fun s =>
    match s.announceBayRefusal bay with
    | some a => (s, a)
    | none => orUnknown (s.findBay bay) s (fun x =>
        match s.announceRefusal x truck plan with
        | some a => (s, a)
        | none => s.effect (fun s => s.announceTruck x truck plan) (Answer.ok (.phase x.announcedPhase))))

/-! ### REPLAN (R169) -/

/-- The checks of REPLAN on the bay (R169 steps 1 to 4). -/
def State.replanBayRefusal (s : State) (b : Nat) : Option Answer :=
  if s.port.mode = .setup then some (Answer.refuse .wrongMode)
  else match s.bayRefusal b with
    | some st => some (refuseField st .bay)
    | none => match s.findBay b with
      | none => some (Answer.refuse .unknown)
      | some x =>
        if x.phase = .none ∨ x.phase = .unannounced ∨ x.phase = .dismissed then some (Answer.refuse .bayState)
        else if x.someMoving then some (Answer.refuse .busy)
        else none

/-- A plan entry as the host would name it. -/
def PlanEntry.item (e : PlanEntry) : PlanItem := { coil := e.coil, cradle := e.cradle }

/-- The cradles of the truck a bay holds. -/
def Bay.cradleDefs (x : Bay) : List CradleDef := (x.truck.map Truck.cradles).getD []

/-- The checks of REPLAN on the new list (R169 steps 5 and 6); an INVALID names its entry (R178). -/
def State.replanRefusal (s : State) (x : Bay) (plan : List PlanItem) : Option Answer :=
  let placed := x.placedEntries.map PlanEntry.item
  if !inRange 1 6 (placed.length + plan.length) then some (refuseField .outOfRange .plan)
  else (s.planRefusal x.cradleDefs placed (some x.cfg.num) plan).map (fun p =>
    if p.2 = .invalid then Answer.refuseItem .invalid (.thing .entry p.1 none) else Answer.refuse p.2)

/-- Replaces the WAITING entries with the new list, and writes the index of every entry into its coil (R10, R169). -/
def State.replacePlan (s : State) (x : Bay) (plan : List PlanItem) : State :=
  let b := x.cfg.num
  let s := (x.waitingEntries.map PlanEntry.coil).foldl State.clearAlloc s
  let s := s.allocateFrom b 1 (x.placedEntries.map PlanEntry.coil ++ plan.map PlanItem.coil)
  let s := (s.updBay b (fun x =>
    { x with plan := x.placedEntries ++ plan.map (fun e => { coil := e.coil, cradle := e.cradle, status := .waiting }) })).raise
      (.bayChange b)
  let s := (s.runPlanCheck b).clearLimit b
  if x.phase = .loaded ∧ plan ≠ [] then s.setPhase b .loading else s.judgeLoaded b

/-- The result of the plan check, where one was made (R169). -/
def State.replanAnswer (s : State) (b : Nat) : Answer :=
  Answer.ok (.planResult ((s.findBay b).bind (fun x => if x.tared then x.planCheck else none)))

/-- REPLAN: a new list in place of the WAITING entries of a bay's plan (R169). -/
def execReplan (seq : Nat) (bay : Nat) (plan : List PlanItem) (s : State) : Result :=
  s.serve (.replan seq bay plan) (fun s =>
    match s.replanBayRefusal bay with
    | some a => (s, a)
    | none => orUnknown (s.findBay bay) s (fun x =>
        match s.replanRefusal x plan with
        | some a => (s, a)
        | none => s.effectWith (fun s => s.replacePlan x plan) (fun s => s.replanAnswer bay)))

end Sys2Proof.Machine
end

