-- ==== Sys2Proof/Machine/BayEvents.lean ====
section
/-! DEFINITION. What happens at a bay: the arrival timer, the departure, and the CHOCK and CLEAR lines (chapter 8, with R17 and
R109). -/

namespace Sys2Proof.Machine

/-- The number of a bay. -/
def bayNum (bay : Fin 4) : Nat := bay.val + 1

/-! ### Arrival (R152) -/

/-- The phase at the entry into PRESENT (R152, R155). -/
def Phase.arrived (p : Phase) : Phase :=
  match p with
  | .none => .unannounced
  | .expecting => .taring
  | p => p

/-- A truck is PRESENT (R152). -/
def State.truckPresent (s : State) (x : Bay) : State :=
  (s.setPresence x.cfg.num .present none none).setPhase x.cfg.num x.phase.arrived

/-- ARRIVAL_TIMER: the arrival timer of a bay expires (R152). -/
def execArrivalTimer (bay : Fin 4) (s : State) : Result :=
  match s.findBay (bayNum bay) with
  | some x => if x.arrival.isSome ∧ x.presence = .arriving then s.event (fun s => s.truckPresent x) else .next s
  | none => .next s

/-! ### Departure (R17, R109, R162) -/

/-- Whether a move's target is a cradle of bay `b`. -/
def Move.toBay (m : Move) (b : Nat) : Bool :=
  m.live && (match m.target with | some (.place (.cradle b' _)) => b' == b | _ => false)

/-- A move to a departed truck is HELD (TRUCK_GONE); one already HELD keeps its reason and loses its target (R109). -/
def State.holdGone (s : State) (m : Move) : State :=
  let s := if m.state = .gripped then s.addStrayGrip m.crane else s
  let s := s.updMove m.id (fun x => { x with target := none, offTarget := true })
  if m.state = .held then s else s.holdMove m .truckGone

/-- A lifted move from a departed truck goes on with its hook as its source (R109). -/
def State.sourceToHook (s : State) (m : Move) : State :=
  s.updMove m.id (fun x => { x with source := some (.hook m.crane) })

/-- A move from a departed truck whose coil has not been lifted ends ABORTED (R17, R109). -/
def State.abortGone (s : State) (m : Move) : State :=
  let s := if m.state = .gripped then s.addStrayGrip m.crane else s
  let s := if m.state = .toSource then s.placeMessage m.crane (.cancel m.id) else s
  (s.settlePlaces m .aborted).finishMove m .aborted false

/-- Whether a coil lies on a cradle of bay `b`. -/
def Coil.onBay (c : Coil) (b : Nat) : Bool := c.loc.cradleBay == some b

/-- The coils on the cradles leave the table, and every remaining allocation to the bay is cleared (R17). -/
def State.retireCoils (s : State) (b : Nat) : State :=
  { s with coils := (s.coils.filter (fun c => !c.onBay b)).map (fun c =>
      if c.alloc.any (fun a => a.bay == b) then { c with alloc := none } else c) }

/-- A bay record after its truck has left; its layout and its security stand (R162). DEDUCED, notes/assumptions/24.md. -/
def Bay.departed (x : Bay) : Bay :=
  { x with
    presence := .empty, arrival := none, departure := none, phase := .none, hold := none, frontCandidate := none,
    rearCandidate := none, frontTare := none, rearTare := none, tareRetry := false, truck := none, cradles := [], plan := [],
    predicted := none, frontNet := none, rearNet := none, planCheck := none, round := none }

/-- The DEPARTURE notice with its count and mark (R162), and the BAY_CHANGE of the phase and the presence (R155). DEDUCED, that
notice where the phase was NONE, notes/assumptions/22.md. -/
def State.noticeDeparture (s : State) (b retired : Nat) (unauthorised : Bool) : State :=
  let s := { s with port := { s.port with
    departures := s.port.departures.set (b - 1) (some { retired := retired, unauthorised := unauthorised }) } }
  (s.raise (.departure b)).raise (.bayChange b)

/-- The truck has left the bay (R17, R109, R162). DEDUCED, notes/assumptions/23.md. -/
def State.departTruck (s : State) (x : Bay) : State :=
  let b := x.cfg.num
  let gone := s.moves.recs.filter (fun m => m.toBay b)
  let lifted := s.moves.recs.filter (fun m => m.fromBay b && s.onHook m)
  let unlifted := s.moves.recs.filter (fun m => m.fromBay b && !s.onHook m)
  let retired := (s.coils.filter (fun c => c.onBay b)).length
  let s := lifted.foldl State.sourceToHook (gone.foldl State.holdGone s)
  let s := (s.retireCoils b).updBay b Bay.departed
  let s := (s.withdrawBayRequests b .tare).withdrawBayRequests b .place
  let s := s.noticeDeparture b retired (x.phase != .dismissed)
  (unlifted.foldl State.abortGone s).wantExam

/-- DEPARTURE: the departure timer of a bay expires (R153, R162). -/
def execDeparture (bay : Fin 4) (s : State) : Result :=
  match s.findBay (bayNum bay) with
  | some x => if x.departure.isSome ∧ x.presence = .departing then s.event (fun s => s.departTruck x) else .next s
  | none => .next s

/-! ### The lines (R156) -/

/-- Security and marker when CHOCK rises or falls, with CLEAR as taken (R156). -/
def chockTurns (high clear : Bool) (sec : Security) (stale : Bool) : Security × Bool :=
  match high, sec with
  | true, .open => (.chocked, clear)
  | false, .chocked => (.open, false)
  | false, .secured => (.open, false)
  | _, sec => (sec, stale)

/-- Security and marker when CLEAR rises or falls (R156). -/
def clearTurns (high : Bool) (sec : Security) (stale : Bool) : Security × Bool :=
  match high, sec with
  | true, .chocked => if stale then (.chocked, stale) else (.secured, stale)
  | false, .chocked => (.chocked, false)
  | false, .secured => (.chocked, stale)
  | _, sec => (sec, stale)

/-- A bay takes a new security and marker: a change of either raises BAY_CHANGE, a change of security is handed on (R156,
R157). -/
def State.setSecurity (s : State) (x : Bay) (sec : Security × Bool) : State :=
  if sec = (x.security, x.stale) then s
  else
    let b := x.cfg.num
    let s := (s.updBay b (fun x => { x with security := sec.1, stale := sec.2 })).raise (.bayChange b)
    if sec.1 = x.security then s else s.bayHanded b

/-- The state with the lines of a bay as newly taken. -/
def State.setLines (s : State) (b : Nat) (f : BayLines → BayLines) : State := { s with lines := modifyNth s.lines b f }

/-- The lines of a bay as they were taken last. -/
def State.takenLines (s : State) (b : Nat) : BayLines := (nth? s.lines b).getD { chock := false, clear := false }

/-- CHOCK of a bay rises or falls (R156). -/
def State.chock (s : State) (b : Nat) (high : Bool) : State :=
  let old := s.takenLines b
  let s := s.setLines b (fun l => { l with chock := high })
  match s.findBay b with
  | some x => if old.chock = high then s else s.setSecurity x (chockTurns high old.clear x.security x.stale)
  | none => s

/-- CHOCK_LINE: the unit takes a new level of the CHOCK line of a bay (R156). DESIGN CHOICE, notes/assumptions/44.md. -/
def execChockLine (bay : Fin 4) (high : Bool) (s : State) : Result := s.event (fun s => s.chock (bayNum bay) high)

/-- CLEAR of a bay rises or falls (R156). -/
def State.clear (s : State) (b : Nat) (high : Bool) : State :=
  let old := s.takenLines b
  let s := s.setLines b (fun l => { l with clear := high })
  match s.findBay b with
  | some x => if old.clear = high then s else s.setSecurity x (clearTurns high x.security x.stale)
  | none => s

/-- CLEAR_LINE: the unit takes a new level of the CLEAR line of a bay (R156). -/
def execClearLine (bay : Fin 4) (high : Bool) (s : State) : Result := s.event (fun s => s.clear (bayNum bay) high)

end Sys2Proof.Machine
end

