-- ==== Sys2Proof/Machine/Channels.lean ====
section
/-! DEFINITION. The shared operations of the Load-Cell Front End: a channel restarted, faulted or returned, and the watches of
a fast update (R113 to R123). -/

namespace Sys2Proof.Machine

/-- A channel restarted: fast filter empty, run length 0, fast weight absent, no-clock timer started (R113). -/
def Channel.restart (c : Channel) : Channel :=
  { c with
    state := .running
    runLength := 0
    lastBit := none
    noClock := some 50
    fast := Sinc.start ((c.cfg.map ChanSettings.fastOrder).getD 1)
    fastWeight := none
    fastOut := []
    stuckDue := false }

/-- The crane whose hoist a weigh point is. -/
def craneOf : WeighPoint → Option Nat
  | .hoist n => some n
  | _ => none

/-- FAULT is absent from a crane's raise inhibit reason set when both its hoist channels are RUNNING (R44, R59, R112,
R116). -/
def State.clearCraneFault (s : State) (n : Nat) : State :=
  if s.pointRunning (.hoist n) then s.updRaise n (fun r => { r with fault := false }) else s

/-- What a faulted channel that has entered RUNNING brings to its crane or its bay: a platform's level becomes NONE, and the
thaw that may follow places the TAREs the bay still needs (R59, R116, R154, R159). -/
def State.channelReturned (s : State) (ch : Nat) : State :=
  match sideOf (pointOfChannel ch), craneOf (pointOfChannel ch) with
  | some (b, d), _ => s.setLevel b d .none
  | none, some n => s.clearCraneFault n
  | none, none => s

/-- A faulted channel is restarted (R116). -/
def State.returnChannel (s : State) (ch : Nat) : State := (s.updChannel ch Channel.restart).channelReturned ch

/-- A channel in FAULT: its filters stop, its fast weight and run length stand (R114, R115). -/
def Channel.fail (c : Channel) (cause : FaultCause) : Channel :=
  { c with state := .fault cause, noClock := none, fastOut := [], stuckDue := false }

/-- A channel enters FAULT (R115). -/
def State.faultChannel (s : State) (ch : Nat) (cause : FaultCause) : State :=
  let wp := pointOfChannel ch
  let s := (s.updChannel ch (fun c => c.fail cause)).raise (.channelFault ch)
  let s := match sideOf wp, craneOf wp with
    | some (b, d), _ => s.setLevel b d .fault
    | none, some n =>
      (s.updCrane n (fun c => { c with slack := none })).updRaise n (fun r => { r with fault := true })
    | none, none => s
  (s.endRequests (fun r => r.isRunning && r.point == wp) .fault).allocate

/-- Whether some channel of a weigh point is UNCONFIGURED (R130, R146). -/
def State.unconfigured (s : State) (wp : WeighPoint) : Bool := wp.channels.any (fun ch => (s.channel ch).state == .unconfigured)

/-! ### Fast updates (R117) -/

/-- The overload watch (R119). -/
def State.overloadWatch (s : State) (n : Nat) (sum : Int) : State :=
  match s.findCrane n with
  | some c =>
    if (s.settings.overload : Int) < sum ∧ c.raise.overload = false then
      (s.updRaise n (fun r => { r with overload := true })).raise (.overload n)
    else s
  | none => s

/-- The slack watch: a stopped timer starts while the fast net of a LOADED hoist is below S, and a running one stops at S
or above (R120). DESIGN CHOICE, notes/assumptions/39.md. -/
def State.slackWatch (s : State) (n : Nat) (net : Int) : State :=
  match s.findCrane n with
  | some c =>
    if c.load ≠ .loaded then s
    else if net < s.settings.slack then
      (if c.slack.isNone then s.updCrane n (fun c => { c with slack := some s.settings.slackTime }) else s)
    else s.updCrane n (fun c => { c with slack := none })
  | none => s

/-- The lift peak of a LOADED crane (R121). -/
def State.liftWatch (s : State) (n : Nat) (net : Int) : State :=
  s.updCrane n (fun c =>
    if c.load = .loaded then
      { c with liftPeak := match c.liftPeak with | some p => some (max p net) | none => some net }
    else c)

/-- The level a fast sum gives (R122). -/
def Settings.levelFor (t : Settings) (sum : Int) : Level :=
  if (t.arrivalThreshold : Int) < sum then .high
  else if sum < (t.emptyThreshold : Int) then .low
  else .mid

/-- Peak and trough of a weigh point (R123). -/
def Point.take (p : Point) (sum : Int) : Point := { p with peak := max p.peak sum, trough := min p.trough sum }

/-- The fast net of a hoist: the fast sum less the tare of its crane (R117). -/
def State.fastNet (s : State) (n : Nat) (sum : Int) : Int := sum - s.tareOf (.hoist n)

/-- The watches of a weigh point at a fast update (R117). -/
def State.watches (s : State) (wp : WeighPoint) (sum : Int) : State :=
  let s := s.updPoint wp (fun p => p.take sum)
  match sideOf wp, craneOf wp with
  | some (b, d), _ => s.setLevel b d (s.settings.levelFor sum)
  | none, some n =>
    let net := s.fastNet n sum
    ((s.overloadWatch n sum).slackWatch n net).liftWatch n net
  | none, none => s

end Sys2Proof.Machine
end

