-- ==== Sys2Proof/Machine/WeighRequests.lean ====
section
/-! DEFINITION. The requests on the Front End and the Weigh Engines: CLEAR of a channel and of a crane, PEAKS, WEIGH,
WEIGH-RESULT, CHANNELS (chapter 6). -/

namespace Sys2Proof.Machine

/-! ### CLEAR (R116, R119) -/

/-- The refusal of CLEAR naming a channel (R116). -/
def State.clearRefusal (s : State) (ch : Nat) : Option Status :=
  if !inRange 0 13 ch then some .outOfRange
  else if (s.channel ch).state = .unconfigured then some .wrongState
  else none

/-- CLEAR of a channel: a channel in FAULT is restarted; one in RUNNING is left as it is (R116). -/
def execClearChannel (seq : Nat) (channel : Nat) (s : State) : Result :=
  s.serve (.clearChannel seq channel) (fun s =>
    refusedIn .channel (s.clearRefusal channel) s
      (if (s.channel channel).faulted then s.effect (fun s => s.returnChannel channel) (Answer.ok .none)
       else (s, Answer.ok .none)))

/-- CLEAR of a defined crane by the table of R119. -/
def State.clearOverload (s : State) (c : Crane) : State × Answer :=
  let sum := s.fastSum (.hoist c.num)
  let data : Data := .overload sum s.settings.overload
  if !c.raise.overload then (s, Answer.ok data)
  else match sum with
    | some v =>
      if v ≤ s.settings.overload then (s.updRaise c.num (fun r => { r with overload := false }), Answer.ok data)
      else (s, { status := .overLimit, item := none, data := data })
    | none => (s, { status := .overLimit, item := none, data := data })

/-- CLEAR of a crane: removes OVERLOAD when the latest fast sum allows it (R119). -/
def execClearCrane (seq : Nat) (crane : Nat) (s : State) : Result :=
  s.serve (.clearCrane seq crane) (fun s =>
    refusedIn .crane (s.craneRefusal crane) s (orUnknown (s.findCrane crane) s (fun c => s.clearOverload c)))

/-! ### PEAKS (R123) -/

/-- The number a weigh point names, as a field. -/
def pointField : WeighPoint → FieldName
  | .hoist _ => .crane
  | .front _ => .bay
  | .rear _ => .bay

/-- The refusal of a weigh point outside cranes 1 to 3 and bays 1 to 4 (R123, R130, R146). -/
def pointRefusal (wp : WeighPoint) : Option Answer :=
  if wp.valid then none else some (refuseField .outOfRange (pointField wp))

/-- A weigh point as PEAKS returns it (R123). -/
def State.peakView (s : State) (wp : WeighPoint) : PeakView :=
  { point := wp, peak := (s.point wp).peak, trough := (s.point wp).trough, sum := s.fastSum wp }

/-- The peak and trough of a weigh point at their reset values (R123). -/
def State.resetPeak (s : State) (wp : WeighPoint) : State :=
  s.updPoint wp (fun p => { p with peak := Point.initial.peak, trough := Point.initial.trough })

/-- PEAKS: returns and resets peaks and troughs (R123). -/
def execPeaks (seq : Nat) (point : Option WeighPoint) (s : State) : Result :=
  s.serve (.peaks seq point) (fun s =>
    match point with
    | none => (allPoints.foldl State.resetPeak s, Answer.ok (.peaks (allPoints.map s.peakView)))
    | some wp => match pointRefusal wp with
      | some a => (s, a)
      | none => (s.resetPeak wp, Answer.ok (.peaks [s.peakView wp])))

/-! ### WEIGH and WEIGH-RESULT (R130) -/

/-- The place in the queue at which a request for the host is placed: that of the request it merges with, or the end
(R124, R125, R130). DEDUCED, notes/assumptions/30.md. -/
def State.hostPlace (s : State) (wp : WeighPoint) (p : Purpose) : Nat :=
  match s.weigh.queue.findIdx? (mergeable wp p) with
  | some i => i + 1
  | none => s.weigh.queue.length + 1

/-- The checks of WEIGH after its weigh point (R130). -/
def State.weighRefusal (s : State) (wp : WeighPoint) : Option Status :=
  if s.unconfigured wp then some .wrongState
  else if Config.hostWeighCapacity ≤ s.hostRequests ∧ s.weigh.queue.any (mergeable wp .read) = false then some .queueFull
  else none

/-- WEIGH: places a READ for the host (R130). -/
def execWeigh (seq : Nat) (point : WeighPoint) (s : State) : Result :=
  s.serve (.weigh seq point) (fun s =>
    match pointRefusal point with
    | some a => (s, a)
    | none =>
      refusedBy (s.weighRefusal point) s
        (s.effect (fun s => s.placeRequest point .read .host 0 0) (Answer.ok (.queuePlace (s.hostPlace point .read)))))

/-- WEIGH-RESULT: the host result slot of a weigh point, whose unread mark it clears (R130). -/
def execWeighResult (seq : Nat) (point : WeighPoint) (s : State) : Result :=
  s.serve (.weighResult seq point) (fun s =>
    match pointRefusal point with
    | some a => (s, a)
    | none =>
      (s.updPoint point (fun p => { p with unread := false }), Answer.ok (.slot (s.point point).slot (s.point point).unread)))

/-! ### CHANNELS (R131) -/

/-- A channel as CHANNELS returns it (R113, R131). -/
def State.channelView (s : State) (ch : Nat) : ChannelView :=
  let c := s.channel ch
  { num := ch, state := c.state, cfg := c.cfg, scale := c.scale, stuckRun := s.settings.stuckRun, runLength := c.runLength,
    fastWeight := c.fastWeight }

/-- A weigh request as CHANNELS returns it (R124, R131). -/
def WeighRequest.view (r : WeighRequest) : RequestView :=
  { point := r.point, purpose := r.purpose, requesters := r.requesters,
    mass := if r.purpose = .span then some r.mass else none,
    engine := r.run.map EngineRun.engine, preempted := r.preempted, retry := r.retry, arrival := r.arrival,
    settle := r.run.bind EngineRun.settle }

/-- The answer of CHANNELS (R131); an engine is told by the arrival number of the request it runs. DEDUCED,
notes/assumptions/63.md. -/
def State.channelsAnswer (s : State) : Answer :=
  Answer.ok (.channels ((List.range 14).map s.channelView)
    (allPoints.map (fun wp => (wp, s.fastSum wp, (s.point wp).level)))
    (s.cranes.map (fun c => (c.num, c.slack)))
    (s.weigh.queue.map WeighRequest.view)
    ([1, 2, 3, 4].map (fun e => (s.engineRequest e).map WeighRequest.arrival)))

/-- CHANNELS: reads the Front End and the Weigh Engines (R131). -/
def execChannels (seq : Nat) (s : State) : Result := s.reply (.channels seq) State.channelsAnswer

end Sys2Proof.Machine
end

