-- ==== Sys2Proof/Machine/CalibRequests.lean ====
section
/-! DEFINITION. The requests on the Calibration Store: CALIBRATION, ZERO, SPAN (R144 to R147). -/

namespace Sys2Proof.Machine

/-- The answer of CALIBRATION for one channel or for all (R144). -/
def State.calibAnswer (s : State) : Option Nat → Answer
  | none => Answer.ok (.calibration ((List.range 14).map (fun ch => (ch, s.calibOf ch))) s.switchClosed)
  | some ch =>
    if inRange 0 13 ch then Answer.ok (.calibration [(ch, s.calibOf ch)] s.switchClosed)
    else refuseField .outOfRange .channel

/-- CALIBRATION: zero, span and count of one channel or of all, with the state of the switch (R144). -/
def execCalibration (seq : Nat) (channel : Option Nat) (s : State) : Result :=
  s.reply (.calibration seq channel) (fun s => s.calibAnswer channel)

/-- Whether a ZERO or SPAN of a weigh point is in the weigh queue (R146 step 5). -/
def State.calibrating (s : State) (wp : WeighPoint) : Bool :=
  s.weigh.queue.any (fun r => r.point == wp && (r.purpose == .zero || r.purpose == .span))

/-- The checks of ZERO and SPAN from step 2 on; `load` says whether step 4 is made (R146, R147). -/
def State.calibRefusal (s : State) (wp : WeighPoint) (load : Bool) : Option Status :=
  if s.switchClosed then some .switchClosed
  else if s.unconfigured wp then some .wrongState
  else if load && !s.unloaded wp then some .wrongState
  else if s.calibrating wp then some .busy
  else if Config.hostWeighCapacity ≤ s.hostRequests then some .queueFull
  else none

/-- ZERO: places a weigh request with purpose ZERO for the host (R146). -/
def execZero (seq : Nat) (point : WeighPoint) (s : State) : Result :=
  s.serve (.zero seq point) (fun s =>
    match pointRefusal point with
    | some a => (s, a)
    | none =>
      refusedBy (s.calibRefusal point true) s
        (s.effect (fun s => s.placeRequest point .zero .host 0 0) (Answer.ok (.queuePlace (s.hostPlace point .zero)))))

/-- SPAN: places a weigh request with purpose SPAN and a test mass for the host (R147). -/
def execSpan (seq : Nat) (point : WeighPoint) (mass : Nat) (s : State) : Result :=
  s.serve (.span seq point mass) (fun s =>
    match pointRefusal point with
    | some a => (s, a)
    | none =>
      if !inRange 100 250000 mass then (s, refuseField .outOfRange .mass)
      else
        refusedBy (s.calibRefusal point false) s
          (s.effect (fun s => s.placeRequest point .span .host mass 0) (Answer.ok (.queuePlace (s.hostPlace point .span)))))

end Sys2Proof.Machine
end

