-- ==== Sys2Proof/Machine/ChannelEvents.lean ====
section
/-! DEFINITION. What the load-cell inputs bring: bits, faults, fast updates, and the expiry of a slack timer
(R99, R113 to R123, R133). -/

namespace Sys2Proof.Machine

/-- The number of a channel. -/
def chanNum (ch : Fin 14) : Nat := ch.val

/-! ### Bits (R113, R114) -/

/-- The run length after a bit: 1 for a bit that differs from the one before it and for the first after a restart (R114). -/
def Channel.nextRun (c : Channel) (bit : Bool) : Nat := if c.lastBit = some bit then c.runLength + 1 else 1

/-- One bit into a RUNNING channel: fault detectors and fast filter; an output waits for its fast update (R113, R114,
R117). DESIGN CHOICE, notes/assumptions/15.md. -/
def Channel.takeBit (c : Channel) (cfg : ChanSettings) (stuckRun : Nat) (bit : Bool) : Channel :=
  let run := c.nextRun bit
  let r := c.fast.push cfg.fastOrder cfg.fastDecim (bitValue bit)
  { c with runLength := run, lastBit := some bit, noClock := some 50, fast := r.1, fastOut := c.fastOut ++ r.2.toList,
           stuckDue := decide (stuckRun ≤ run) }

/-- A bit of a RUNNING channel, for its fast filter and for the engine that runs a request on its weigh point (R113). -/
def State.takeBit (s : State) (ch : Nat) (bit : Bool) : State :=
  let c := s.channel ch
  match c.cfg with
  | some cfg =>
    (s.updChannel ch (fun c => c.takeBit cfg s.settings.stuckRun bit)).feedEngine ch cfg (bitValue bit)
  | none => s

/-- RISING_CLOCK_EDGE: a channel in RUNNING reads one bit of its data line; in UNCONFIGURED and FAULT edges are ignored. A bit
that has completed a stuck run is followed by the fault, which is taken first (R113, R114). -/
def execRisingClockEdge (channel : Fin 14) (bit : Bool) (s : State) : Result :=
  let ch := chanNum channel
  if s.running ch ∧ (s.channel ch).stuckDue = false then .next (s.takeBit ch bit) else .next s

/-- STUCK: the run length of a RUNNING channel has reached the threshold (R114). -/
def execStuck (channel : Fin 14) (s : State) : Result :=
  let ch := chanNum channel
  if s.running ch ∧ (s.channel ch).stuckDue = true then s.event (fun s => s.faultChannel ch .stuck) else .next s

/-- NO_CLOCK: the no-clock timer of a RUNNING channel runs out (R114). -/
def execNoClock (channel : Fin 14) (s : State) : Result :=
  let ch := chanNum channel
  if s.running ch ∧ (s.channel ch).noClock.isSome = true then s.event (fun s => s.faultChannel ch .noClock) else .next s

/-! ### Fast updates (R117, R138) -/

/-- A fast filter output becomes the fast weight of its channel, and the watches of the weigh point follow where every channel
of it has a fast weight (R117). -/
def State.fastUpdate (s : State) (ch : Nat) (out : Int) (rest : List Int) : State :=
  let w := fastWeightOf out (s.channel ch).scale (s.calibOf ch)
  let s := s.updChannel ch (fun c => { c with fastOut := rest, fastWeight := some w })
  let wp := pointOfChannel ch
  match s.fastSum wp with
  | some sum => s.watches wp sum
  | none => s

/-- FAST_UPDATE: the oldest output of a channel's fast filter is converted (R117). A channel whose filter has given none has no
update. -/
def execFastUpdate (channel : Fin 14) (s : State) : Result :=
  let ch := chanNum channel
  match (s.channel ch).fastOut with
  | out :: rest => if s.running ch then s.event (fun s => s.fastUpdate ch out rest) else .next s
  | [] => .next s

/-! ### Slack (R99, R120) -/

/-- The lost load of a crane whose load is LOADED: the live move that names its coil ends DROPPED, or the coil is left astray
(R99). DEDUCED, notes/assumptions/46.md. -/
def State.loseLoad (s : State) (n : Nat) : State :=
  match s.hookCoil n with
  | none => s.freeHook n
  | some c =>
    match (c.move.bind s.findMove).filter (fun m => m.live && m.crane == n) with
    | some m => s.endAstray m .dropped (s.lastPosOf n)
    | none =>
      let p := s.lastPosOf n
      ((s.updCoil c.id (fun x => { x with loc := .astray p.1 p.2 })).freeHook n).raise (.moveEnded n)

/-- The expiry of a slack timer (R120). -/
def State.slackExpired (s : State) (c : Crane) : State :=
  let s := s.updCrane c.num (fun c => { c with slack := none })
  if c.load = .loaded then s.loseLoad c.num else s

/-- SLACK: a running slack timer expires (R99, R120). -/
def execSlack (link : Fin 3) (s : State) : Result :=
  match s.findCrane (link.val + 1) with
  | some c => if c.slack.isSome then s.event (fun s => s.slackExpired c) else .next s
  | none => .next s

end Sys2Proof.Machine
end

