-- ==== Sys2Proof/Machine/CoilRequests.lean ====
section
/-! DEFINITION. The requests on coil records: ENTER, QUERY, AMEND, RETIRE (chapter 1). -/

namespace Sys2Proof.Machine

/-- A coil record as QUERY returns it (R13). -/
def State.coilView (s : State) (c : Coil) : CoilView :=
  { coil := c, reference := c.reference,
    present := c.measured.map (fun m => ((s.calibOf (2 * m.crane - 2)).count, (s.calibOf (2 * m.crane - 1)).count)),
    count := s.coils.length }

/-- The answer that returns a coil record (R12, R13, R15, R42). -/
def State.coilAnswer (s : State) (id : Ident) : Answer :=
  match s.findCoil id with
  | some c => Answer.ok (.coil (s.coilView c))
  | none => Answer.refuse .unknown

/-- A new record joins the table at a place, which becomes OCCUPIED (R12, R42). -/
def State.addCoil (s : State) (c : Coil) (p : PlaceRef) : State :=
  { s with coils := s.coils ++ [c] }.setPlace p (.occupied c.id)

/-- Whether a coil with the identifier exists (R2). -/
def State.coilExists (s : State) (id : Ident) : Bool := (s.findCoil id).isSome

/-- Whether the table holds 2,048 records (R2). -/
def State.coilTableFull (s : State) : Bool := decide (Config.coilCapacity ≤ s.coils.length)

/-! ### ENTER (R12) -/

/-- The checks of ENTER in their order; none when all pass (R12). -/
def State.enterRefusal (s : State) (id : Ident) (saddle weight diameter width cls : Nat) : Option Answer :=
  if !identOk id then some (Answer.refuse .badIdent)
  else match fieldOutOfRange weight diameter width cls with
    | some f => some (Answer.refuseItem .outOfRange (.field f))
    | none =>
      if !inRange 1 4 saddle then some (Answer.refuseItem .outOfRange (.field .saddle))
      else if (s.findSaddle saddle).isNone then some (Answer.refuse .unknown)
      else if s.coilExists id then some (Answer.refuse .duplicate)
      else if !s.placeOpen (.entry saddle) then some (Answer.refuse .placeBusy)
      else if s.coilTableFull then some (Answer.refuse .tableFull)
      else none

/-- ENTER: the record of a coil on an entry saddle (R12). -/
def execEnter (seq : Nat) (id : Ident) (saddle weight diameter width cls : Nat) (bearing hold : Option Bool)
    (s : State) : Result :=
  s.serve (.enter seq id saddle weight diameter width cls bearing hold) (fun s =>
    match s.enterRefusal id saddle weight diameter width cls with
    | some a => (s, a)
    | none =>
      let s' := s.addCoil (newCoil id weight diameter width cls bearing hold (.place (.entry saddle))) (.entry saddle)
      (s', s'.coilAnswer id))

/-! ### QUERY (R13) -/

/-- QUERY: one coil record (R13). -/
def execQuery (seq : Nat) (id : Ident) (s : State) : Result :=
  s.reply (.query seq id) (fun s =>
    match s.coilRefusal id with
    | some st => Answer.refuse st
    | none => s.coilAnswer id)

/-! ### AMEND (R14, R15) -/

/-- Whether an AMEND names no field (R14). -/
def namesNone (f : AmendFields) : Bool :=
  f.recorded.isNone && f.diameter.isNone && f.width.isNone && f.cls.isNone && f.bearing.isNone && f.hold.isNone

/-- The record with the amended values; a changed recorded weight re-judges the verification of a measured coil
(R7, R14, R15). -/
def State.amended (s : State) (c : Coil) (f : AmendFields) : Coil :=
  let recorded := f.recorded.getD c.recorded
  { c with
    recorded := recorded
    diameter := f.diameter.getD c.diameter
    width := f.width.getD c.width
    cls := f.cls.getD c.cls
    bearing := f.bearing.getD c.bearing
    hold := f.hold.getD c.hold
    verification := match c.measured with
      | some m => if recorded = c.recorded then c.verification
                  else verify s.settings.allowance s.settings.ratio recorded m.value
      | none => c.verification }

/-- The nest fit of whatever lies in or is bound for a nest (R14); a nest that holds nothing fits. -/
def State.nestStillFits (s : State) (r u : Nat) : Bool :=
  match (s.findPlace (.nest r u)).bind (fun p => p.state.coil?) with
  | some id => match s.findCoil id with
    | some d => s.fits none (.nest r u) d
    | none => true
  | none => true

/-- The fit check at the location of an amended coil, in the state with the amended record (R14). -/
def State.amendFits (s : State) (c : Coil) : Bool :=
  match c.loc with
  | .place (.floor r g) => s.fits none (.floor r g) c && s.nestStillFits r (g - 1) && s.nestStillFits r g
  | .place (.nest r u) => s.fits none (.nest r u) c
  | .place (.cradle b k) => s.fits none (.cradle b k) c
  | _ => true

/-- The plan entry of an allocated coil, with its bay (R10). -/
def State.allocEntry (s : State) (c : Coil) : Option (Bay × PlanEntry) :=
  c.alloc.bind (fun a => (s.findBay a.bay).bind (fun x => (nth? x.plan a.index).map (fun e => (x, e))))

/-- The width check at the planned cradle of an allocated coil (R15). -/
def State.plannedWidthFits (s : State) (c : Coil) : Bool :=
  match s.allocEntry c with
  | some (x, e) => match x.cradleDef e.cradle with
    | some d => decide (c.width ≤ d.maxWidth)
    | none => true
  | none => true

/-- Whether some bay the coil is counted towards exceeds its truck's limits (R14). -/
def State.countedOver (s : State) (c : Coil) : Bool :=
  s.bays.any (fun x => (s.countedCradle x.cfg.num c).isSome && x.overWith (s.counted x none))

/-- The checks of AMEND from step 2 on; none when all pass (R14, R15). -/
def State.amendRefusal (s : State) (c : Coil) (f : AmendFields) : Option Answer :=
  let c' := s.amended c f
  let s' := s.updCoil c.id (fun _ => c')
  match amendOutOfRange f with
  | some fld => some (Answer.refuseItem .outOfRange (.field fld))
  | none =>
    if c.move.isSome then some (Answer.refuse .busy)
    else if f.hold = some true ∧ c.alloc.isSome = true then some (Answer.refuse .allocated)
    else if namesNone f then none
    else if !s'.amendFits c' || !s'.plannedWidthFits c' then some (Answer.refuse .unfit)
    else if c'.reference ≠ c.reference ∧ s'.countedOver c' = true then some (Answer.refuse .axleLimit)
    else none

/-- Writes an amended record with what follows from it (R15): predictions computed afresh, and the plan check of the bay in
whose plan the coil is WAITING. -/
def State.amendCoil (s : State) (c : Coil) (f : AmendFields) : State :=
  let c' := s.amended c f
  let s' := s.updCoil c.id (fun _ => c')
  let s' := if c'.reference = c.reference then s' else s'.refreshPredictions
  match s'.allocEntry c' with
  | some (x, e) =>
    if e.status = .waiting ∧ e.coil = c.id ∧ (c'.reference ≠ c.reference ∨ c'.width ≠ c.width) then s'.runPlanCheck x.cfg.num
    else s'
  | none => s'

/-- AMEND: new descriptive fields or hold of a coil (R14, R15). DEDUCED, notes/assumptions/17.md. -/
def execAmend (seq : Nat) (id : Ident) (fields : AmendFields) (s : State) : Result :=
  s.serve (.amend seq id fields) (fun s =>
    if !identOk id then (s, Answer.refuse .badIdent)
    else orUnknown (s.findCoil id) s (fun c =>
      match s.amendRefusal c fields with
      | some a => (s, a)
      | none =>
        let s' := s.amendCoil c fields
        (s', s'.coilAnswer id)))

/-! ### RETIRE (R16) -/

/-- The record of a coil leaves the table (R1). -/
def State.removeCoil (s : State) (id : Ident) : State := { s with coils := s.coils.filter (fun c => c.id != id) }

/-- The checks of RETIRE from step 2 on (R16). -/
def Coil.retireRefusal (c : Coil) : Option Status :=
  if c.move.isSome then some .busy
  else if c.alloc.isSome then some .allocated
  else match c.loc with
    | .place (.entry _) => none
    | .astray _ _ => none
    | _ => some .wrongPlace

/-- RETIRE: the record of a coil at an entry saddle or astray leaves the table (R16). -/
def execRetire (seq : Nat) (id : Ident) (s : State) : Result :=
  s.serve (.retire seq id) (fun s =>
    if !identOk id then (s, Answer.refuse .badIdent)
    else orUnknown (s.findCoil id) s (fun c =>
      refusedBy c.retireRefusal s (
        let s' := s.removeCoil id
        let s' := match c.loc with
          | .place p => s'.setPlace p .free
          | _ => s'
        (s', Answer.ok (.count s'.coils.length)))))

end Sys2Proof.Machine
end

