-- ==== Sys2Proof/Machine/CraneEvents.lean ====
section
/-! DEFINITION. What arrives on the crane links: POSITION, the four grab events, dropped frames, a message sent, and the expiry
of a freshness timer (chapters 3 to 5). -/

namespace Sys2Proof.Machine

/-- The crane of a link. -/
def craneNum (link : Fin 3) : Nat := link.val + 1

/-- A frame of a crane link taken for its crane; for a crane not defined the frame is dropped and counted (R44). -/
def State.craneFrame (s : State) (link : Fin 3) (act : State → Crane → State) : Result :=
  let s := s.updLink (craneNum link) (fun l => { l with partialFrame := [] })
  match s.findCrane (craneNum link) with
  | some c => s.event (fun s => act s c)
  | none => .next (s.dropCraneFrame (craneNum link))

/-! ### POSITION (R50, R51, R70, R76, R100) -/

/-- Whether every zone of a footprint may be taken at first tracking (R51). -/
def ZoneTable.trackable (t : ZoneTable) (n : Nat) (r : Run) : Bool :=
  (Run.zones r).all (fun z => match t.zone? z with
    | some rec => (rec.owner == none || rec.owner == some n) && t.orderKept n z none
    | none => false)

/-- The footprint a tracking attempt takes, where it succeeds (R51). -/
def State.attempt (s : State) (c : Crane) (x : Int) : Option Run :=
  match s.arbiter.table with
  | some t => (t.footprint c.halfLength x).bind (fun r => if t.trackable c.num r then some r else none)
  | none => none

/-- First tracking: the crane takes its footprint; a WINDOW is placed even if the window is unchanged (R51, R74).
DEDUCED, notes/assumptions/8.md. -/
def State.startTracking (s : State) (n : Nat) (r : Run) : State :=
  let s := (s.assignRun n (some r)).updCrane n (fun c =>
    { c with tracking := .tracking, travel := { c.travel with unknown := false } })
  let s := s.raise (.craneState n)
  match s.findCrane n with
  | some c => (s.storeWindow n (s.windowOf c)).wantExam
  | none => s

/-- A crane comes back from LOST: the window it holds is placed on the link again (R50, R74). -/
def State.returnFromLost (s : State) (c : Crane) : State :=
  let s := s.updCrane c.num (fun c => { c with tracking := .tracking, travel := { c.travel with lost := false } })
  ((s.raise (.craneState c.num)).placeMessage c.num (.window c.window)).wantExam

/-- The footprints needed by the head of a crane, as X positions (R76). -/
def State.neededX (s : State) (m : Move) : List Int :=
  let target := (s.targetX m).toList
  let source := (s.sourceX m).toList
  match m.state with
  | .toSource => source ++ target
  | .gripped => source ++ target
  | .weighing => target
  | .carrying => target
  | .placed => target
  | .travelling => target
  | .held =>
    if m.hold = some .crossing ∨ m.kind = .travel then []
    else (if s.onHook m then [] else source) ++ target
  | _ => []

/-- The run that remains after a release: the footprint at X and the needed zones, as far as the crane owns them (R76). -/
def State.releasedRun (s : State) (t : ZoneTable) (c : Crane) (x : Int) : Option Run :=
  let xs := match s.head c.num with
    | some m => s.neededX m
    | none => []
  (x :: xs).foldl (fun r x => hull r (meet (t.footprint c.halfLength x) c.run)) none

/-- The release the Zone Arbiter makes from a POSITION inside the window, with the window recomputed (R49, R76). -/
def State.release (s : State) (n : Nat) (x : Int) : State :=
  match s.arbiter.table, s.findCrane n with
  | some t, some c => (s.shrinkRun n (s.releasedRun t c x)).refreshWindow n
  | _, _ => s

/-- A TRAVEL in TRAVELLING ends DONE at a POSITION within the tolerance of its target (R100). -/
def State.endTravel (s : State) (n : Nat) (x : Int) : State :=
  match s.head n with
  | some m =>
    match m.state, m.target with
    | .travelling, some (.runway t) => if within s.settings.tolerance x t then s.finishMove m .done false else s
    | _, _ => s
  | none => s

/-- The run of a crane's waiting entry is computed again; a change causes an examination (R70, R74). -/
def State.refreshRun (s : State) (n : Nat) : State :=
  let fresh := s.arbiter.requests.map (fun e => if e.crane = n then s.refreshEntry e else e)
  if fresh = s.arbiter.requests then s
  else State.wantExam { s with arbiter := { s.arbiter with requests := fresh } }

/-- A position judged and handed on, as in TRACKING (R50). DEDUCED, notes/assumptions/27.md. -/
def State.judgePosition (s : State) (n : Nat) (x : Int) : State :=
  let s := s.judgeBreach n x
  let inside : Bool := match s.findCrane n with
    | some c => Window.holds c.window x
    | none => false
  let s := s.endTravel n x
  let s := if inside then s.release n x else s
  s.refreshRun n

/-- A POSITION taken for a defined crane (R50). -/
def State.takePosition (s : State) (c : Crane) (x y : Int) : State :=
  let s := s.updCrane c.num (fun c => { c with fresh := some s.settings.freshness, lastPos := some (x, y) })
  match c.tracking with
  | .unknown =>
    match s.attempt c x with
    | some r => s.startTracking c.num r
    | none => s
  | .tracking => s.judgePosition c.num x
  | .lost => (s.returnFromLost c).judgePosition c.num x

/-- POSITION: a crane reports its bridge and trolley (R50). -/
def execPosition (link : Fin 3) (x y : Int) (s : State) : Result := s.craneFrame link (fun s c => s.takePosition c x y)

/-! ### Grab events (R54, R55, R94) -/

/-- A grab event whose stage the tongs allow goes on; any other is malformed and raises PROTOCOL alone (R54). -/
def State.grab (s : State) (c : Crane) (needs : Tongs) (act : State → State) : State :=
  if c.tongs = needs then act s else s.raise (.protocol c.num)

/-- The head move that a grab event names (R94). -/
def State.namedHead (s : State) (n move : Nat) : Option Move :=
  match s.head n with
  | some m => if m.id = move then some m else none
  | none => none

/-- The coil on the hook of a crane that no live move names (R55). -/
def State.looseCoil (s : State) (n : Nat) : Option Coil := s.coils.find? (fun c => c.loc == .hook n && c.move.isNone)

/-- The load of a crane. -/
def State.loadOf (s : State) (n : Nat) : Load :=
  match s.findCrane n with
  | some c => c.load
  | none => .free

/-- The load leaves LOADED for RESTING: a running slack timer stops (R54, R120). -/
def State.restHook (s : State) (n : Nat) : State := s.updCrane n (fun c => { c with load := .resting, slack := none })

/-- The load becomes LOADED and the lift peak is reset (R55, R96, R121). -/
def State.loadHook (s : State) (n : Nat) : State := s.updCrane n (fun c => { c with load := .loaded, liftPeak := none })

/-- A GRIPPED is not taken: PROTOCOL, and STRAY_GRIP added (R55, R59). -/
def State.refuseGripped (s : State) (n : Nat) : State := (s.raise (.protocol n)).addStrayGrip n

/-- A GRIPPED taken by a head in TO_SOURCE is judged against the source (R95). -/
def State.takeGripped (s : State) (m : Move) (p : Pos) : State :=
  let s := s.updMove m.id (fun x => { x with gripTaken := true })
  let near : Bool := match m.source.bind s.locPos with
    | some q => posWithin s.settings.tolerance p q
    | none => false
  if near then s.updMove m.id (fun x => { x with state := .gripped })
  else (s.addStrayGrip m.crane).holdMove m .strayGrip

/-- GRIPPED with the tongs OPEN (R54, R94, R95). -/
def State.gripped (s : State) (n move : Nat) (p : Pos) : State :=
  let s := s.updCrane n (fun c => { c with tongs := .closed })
  match s.namedHead n move with
  | some m => if m.state = .toSource then s.takeGripped m p else s.refuseGripped n
  | none => s.refuseGripped n

/-- GRIPPED: the tongs close round a coil (R54, R95). -/
def execGripped (link : Fin 3) (move : Nat) (x y : Int) (s : State) : Result :=
  s.craneFrame link (fun s c => s.grab c .opened (fun s => s.gripped c.num move (x, y)))

/-- A LIFTED is not taken; a loose coil set down follows it (R55). -/
def State.refuseLifted (s : State) (n : Nat) : State :=
  let s := s.raise (.protocol n)
  if (s.looseCoil n).isSome ∧ s.loadOf n = .resting then s.loadHook n else s

/-- A cradle source gives its coil up: its plan entry returns to WAITING and a round in progress is abandoned (R96, R167,
R174). -/
def State.leaveCradle (s : State) (b k : Nat) (coil : Ident) : State := (s.setEntry b k coil .waiting).abandonRound b

/-- The source of a lifted move becomes VACATED (R34, R96). -/
def State.vacate (s : State) (m : Move) (coil : Ident) : State :=
  match m.source with
  | some (.place p) =>
    let s := s.setPlace p (.vacated m.id)
    match p with
    | .cradle b k => s.leaveCradle b k coil
    | _ => s
  | _ => s

/-- A LIFTED in GRIPPED lifts the coil off its source (R96). -/
def State.liftOff (s : State) (m : Move) (x : Int) : State :=
  let s := match m.coil with
    | some coil => (s.updCoil coil (fun c => { c with loc := .hook m.crane })).vacate m coil
    | none => s
  let s := (s.loadHook m.crane).updMove m.id (fun k => { k with liftX := some x })
  s.enterWeighing m 0

/-- A LIFTED in PLACED lifts the coil again (R96). -/
def State.liftAgain (s : State) (m : Move) (x : Int) : State :=
  let s := (s.loadHook m.crane).updMove m.id (fun k => { k with liftX := some x, offTarget := false })
  if ((s.moveCoil m).bind Coil.measured).isSome then s.enterCarrying m else s.enterWeighing m 0

/-- A LIFTED in HELD with the load RESTING (R96). -/
def State.liftHeld (s : State) (m : Move) (x : Int) : State :=
  ((s.loadHook m.crane).updMove m.id (fun k => { k with liftX := some x })).refreshWindow m.crane

/-- A LIFTED that names the head, by the head's state (R94, R96). -/
def State.takeLifted (s : State) (m : Move) (x : Int) : State :=
  match m.state with
  | .gripped => s.liftOff m x
  | .placed => s.liftAgain m x
  | .held => if s.onHook m ∧ s.loadOf m.crane = .resting then s.liftHeld m x else s.refuseLifted m.crane
  | _ => s.refuseLifted m.crane

/-- LIFTED with the tongs CLOSED (R54, R94). -/
def State.lifted (s : State) (n move : Nat) (x : Int) : State :=
  match s.namedHead n move with
  | some m => s.takeLifted m x
  | none => s.refuseLifted n

/-- LIFTED: the hoist takes the coil's weight (R54, R96). -/
def execLifted (link : Fin 3) (move : Nat) (x _y : Int) (s : State) : Result :=
  s.craneFrame link (fun s c => s.grab c .closed (fun s => s.lifted c.num move x))

/-- A SET is not taken; a loose coil follows it (R55). -/
def State.refuseSet (s : State) (n : Nat) : State :=
  let s := s.raise (.protocol n)
  if (s.looseCoil n).isSome ∧ s.loadOf n = .loaded then s.restHook n else s

/-- The lift peak of a crane is copied into a move record (R97, R121). -/
def State.copyPeak (s : State) (m : Move) : State :=
  let peak := (s.findCrane m.crane).bind Crane.liftPeak
  s.updMove m.id (fun x => { x with liftPeak := peak })

/-- A SET that names the head, by the head's state (R94, R97). -/
def State.takeSet (s : State) (m : Move) (p : Pos) : State :=
  match m.state with
  | .carrying => ((s.restHook m.crane).copyPeak m).enterPlaced m p
  | .held =>
    if s.onHook m ∧ s.loadOf m.crane = .loaded then
      ((s.restHook m.crane).copyPeak m).updMove m.id (fun x => { x with offTarget := true })
    else s.refuseSet m.crane
  | _ => s.refuseSet m.crane

/-- SET with the tongs CLOSED (R54, R94). -/
def State.setDown (s : State) (n move : Nat) (p : Pos) : State :=
  match s.namedHead n move with
  | some m => s.takeSet m p
  | none => s.refuseSet n

/-- SET: the coil is put down and the hoist slackens (R54, R97). -/
def execSet (link : Fin 3) (move : Nat) (x y : Int) (s : State) : Result :=
  s.craneFrame link (fun s c => s.grab c .closed (fun s => s.setDown c.num move (x, y)))

/-- An OPENED is not taken; a loose coil on the hook is left astray (R55). -/
def State.refuseOpened (s : State) (n : Nat) (p : Pos) : State :=
  let s := s.raise (.protocol n)
  match s.looseCoil n with
  | some c =>
    if s.loadOf n = .free then s
    else (s.updCoil c.id (fun x => { x with loc := .astray p.1 p.2 })).freeHook n
  | none => s

/-- The end DONE of a move at its target (R98). -/
def State.endDone (s : State) (m : Move) (q : PlaceRef) : State :=
  let s := match m.coil with
    | some c => s.updCoil c (fun x => { x with loc := .place q })
    | none => s
  ((s.freeHook m.crane).settlePlaces m .done).finishMove m .done false

/-- Whether the coil of a move, set back on its source, does not fit there: judged at floor and nest positions (R35, R98). -/
def State.misfitAt (s : State) (m : Move) (q : PlaceRef) : Bool :=
  match q, s.moveCoil m with
  | .floor _ _, some c => !s.fits none q c
  | .nest _ _, some c => !s.fits none q c
  | _, _ => false

/-- The end RETURNED of a move at its source: the fit is judged with the places as they are settled (R35, R98). -/
def State.endReturned (s : State) (m : Move) (q : PlaceRef) : State :=
  let s := match m.coil with
    | some c => s.updCoil c (fun x => { x with loc := .place q })
    | none => s
  let s := (s.freeHook m.crane).settlePlaces m .returned
  let misfit := s.misfitAt m q
  let s := match q, m.coil with
    | .cradle b k, some c => s.returnToCradle b k c
    | _, _ => s
  s.finishMove m .returned misfit

/-- The source of a move as a place or cradle still VACATED by it, where a position lies within tolerance of it (R98). -/
def State.setBack (s : State) (m : Move) (p : Pos) : Option PlaceRef :=
  match m.source.bind Loc.place? with
  | some q =>
    if (s.findPlace q).any (fun x => x.state == .vacated m.id) && (s.placePos q).any (fun t => posWithin s.settings.tolerance p t)
    then some q else none
  | none => none

/-- A coil set down away from a confirmed target is released (R98). -/
def State.endOff (s : State) (m : Move) (p : Pos) : State :=
  match s.setBack m p with
  | some q => s.endReturned m q
  | none => s.endAstray m .astray p

/-- An OPENED that names the head, by the head's state (R94, R95, R98); each that is taken makes the load FREE (R54). DEDUCED,
notes/assumptions/19.md. -/
def State.takeOpened (s : State) (m : Move) (p : Pos) : State :=
  match m.state with
  | .gripped => (s.freeHook m.crane).updMove m.id (fun x => { x with state := .toSource })
  | .weighing => s.endAstray m .dropped p
  | .carrying => s.endAstray m .dropped p
  | .placed =>
    match m.offTarget, m.target with
    | false, some (.place q) => s.endDone m q
    | _, _ => s.endOff m p
  | .held =>
    if s.onHook m then (if s.loadOf m.crane = .loaded then s.endAstray m .dropped p else s.endOff m p)
    else if (s.hookCoil m.crane).isSome then s.refuseOpened m.crane p
    else s.freeHook m.crane
  | _ => s.refuseOpened m.crane p

/-- The tongs open: STRAY_GRIP goes, and no move's grip is taken any more (R54, R59, R108). -/
def State.openTongs (s : State) (n : Nat) : State :=
  let s := (s.updCrane n (fun c => { c with tongs := .opened })).updRaise n (fun r => { r with strayGrip := false })
  { s with moves := { s.moves with recs := s.moves.recs.map (fun m => if m.crane = n then { m with gripTaken := false } else m) } }

/-- OPENED with the tongs CLOSED (R54, R94). -/
def State.openedAt (s : State) (n move : Nat) (p : Pos) : State :=
  let s := s.openTongs n
  match s.namedHead n move with
  | some m => s.takeOpened m p
  | none => s.refuseOpened n p

/-- OPENED: the tongs open (R54, R98). -/
def execOpened (link : Fin 3) (move : Nat) (x y : Int) (s : State) : Result :=
  s.craneFrame link (fun s c => s.grab c .closed (fun s => s.openedAt c.num move (x, y)))

/-! ### The link itself (R52, R55, R56) -/

/-- A frame dropped on a crane link is counted; an unreadable one raises PROTOCOL for a defined crane (R44, R55). -/
def execCraneFrameDropped (link : Fin 3) (cause : CraneDrop) (s : State) : Result :=
  let s := (s.updLink (craneNum link) (fun l => { l with partialFrame := [] })).dropCraneFrame (craneNum link)
  match cause with
  | .checkFailed => .next s
  | .unreadable => if s.craneDefined (craneNum link) then .next (s.raise (.protocol (craneNum link))) else .next s

/-- A link has sent its message: the one that has waited longest is sent next (R56). -/
def execLinkSend (link : Fin 3) (s : State) : Result :=
  .next (s.updLink (craneNum link) (fun l => if l.sending.isSome then l.sendNext else l))

/-- The effect of an expiry by the tracking state (R52). -/
def State.loseCrane (s : State) (c : Crane) : State :=
  let s := s.updCrane c.num (fun c => { c with fresh := none })
  if c.tracking = .tracking then
    (s.updCrane c.num (fun c => { c with tracking := .lost, travel := { c.travel with lost := true } })).raise (.craneState c.num)
  else s

/-- A freshness timer that runs expires (R52). DESIGN CHOICE, notes/assumptions/21.md. -/
def execFreshnessExpiry (link : Fin 3) (s : State) : Result :=
  match s.findCrane (craneNum link) with
  | some c => if c.fresh.isSome then s.event (fun s => s.loseCrane c) else .next s
  | none => .next s

end Sys2Proof.Machine
end

