-- ==== Sys2Proof/Machine/CraneRequests.lean ====
section
/-! DEFINITION. The request on crane records: CRANE (R60). -/

namespace Sys2Proof.Machine

/-- A crane record as CRANE returns it (R60). -/
def State.craneView (s : State) (c : Crane) : CraneView :=
  { crane := c, travelLine := s.travelLine c.num, raiseLine := s.raiseLine c.num,
    head := (s.head c.num).map (fun m => (m.id, m.state)),
    dropped := match nth? s.links c.num with | some l => l.dropped | none => 0 }

/-- The answer of CRANE for one crane or for all (R60). -/
def State.craneAnswer (s : State) : Option Nat → Answer
  | none => Answer.ok (.cranes (s.cranes.map s.craneView))
  | some n =>
    match s.craneRefusal n with
    | some st => refuseField st .crane
    | none => Answer.ok (.cranes ((s.findCrane n).toList.map s.craneView))

/-- CRANE: the records of one crane or of all, with their lines, head moves and dropped-frame counts (R60). -/
def execCrane (seq : Nat) (num : Option Nat) (s : State) : Result :=
  s.reply (.crane seq num) (fun s => s.craneAnswer num)

end Sys2Proof.Machine
end

