-- ==== Sys2Proof/Machine/Reset.lean ====
section
/-! DEFINITION. Power-on reset and RESTART, with the entry of a crane into UNKNOWN and the security a bay takes from its lines
(R19, R43, R53, R61, R83, R111, R132, R156, R164, R176, R183). -/

namespace Sys2Proof.Machine

/-- POWER_ON_RESET: every block takes its power-on values; the Calibration Store keeps its contents (R144, R183).
DESIGN CHOICE, notes/assumptions/3.md. -/
def execPowerOnReset (s : State) : Result := .next { State.reset with calib := s.calib, pending := s.pending }

/-! ### Entry into UNKNOWN (R53) -/

/-- A crane enters UNKNOWN (R53). -/
def State.enterUnknown (s : State) (n : Nat) : State :=
  match s.findCrane n with
  | some c =>
    let s := (s.shrinkRun n none).updCrane n (fun c =>
      { c with tracking := .unknown, window := none, fresh := none,
               travel := { c.travel with lost := false, breach := false, unknown := true } })
    let s := s.placeMessage n (.window none)
    if c.tracking = .unknown then s else s.raise (.craneState n)
  | none => s

/-! ### The security from the lines (R156) -/

/-- Security and stale-clear marker as the lines give them (R156). -/
def linesSecurity (l : BayLines) : Security × Bool := if l.chock then (.chocked, l.clear) else (.open, false)

/-- The lines of a bay as taken (R156). -/
def State.linesOf (s : State) (b : Nat) : BayLines := (nth? s.lines b).getD { chock := false, clear := false }

/-! ### RESTART -/

/-- The state of a place after the unwinding of reservations (R43). -/
def PlaceState.unwound : PlaceState → PlaceState
  | .incoming _ _ => .free
  | .outgoing _ c => .occupied c
  | .vacated _ => .free
  | st => st

/-- A place with its reservation unwound; its blocked mark stays (R43). -/
def Place.unwound (p : Place) : Place := { p with state := p.state.unwound }

/-- The Coil Table at RESTART: every move field is cleared (R19). -/
def State.restartCoils (s : State) : State := { s with coils := s.coils.map (fun c => { c with move := none }) }

/-- The Store Map at RESTART (R43). -/
def State.restartStore (s : State) : State :=
  { s with store :=
    { rows := s.store.rows.map (fun r => { r with floors := r.floors.map Place.unwound, nests := r.nests.map Place.unwound })
      saddles := s.store.saddles.map (fun d => { d with place := d.place.unwound }) } }

/-- The Move Table at RESTART: emptied, with MOVE_ENDED for each crane that had live moves; the last-assigned identifier is
kept (R111). -/
def State.restartMoves (s : State) : State :=
  let s' := { s with moves := { s.moves with recs := [] } }
  [1, 2, 3].foldl (fun t n => if (s.queue n).isEmpty then t else t.raise (.moveEnded n)) s'

/-- The travel inhibit reason set of a crane after RESTART (R61). -/
def State.restartReasons (s : State) : TravelReasons :=
  { setup := decide (s.port.mode = .setup), unknown := true, lost := false, breach := false, bay := false }

/-- One crane at RESTART: it enters UNKNOWN, its travel inhibit reason set is UNKNOWN, with SETUP in SETUP mode, and its slack
timer stops (R61, R120). -/
def State.restartCrane (s : State) (n : Nat) : State :=
  (s.enterUnknown n).updCrane n (fun c => { c with slack := none, travel := s.restartReasons })

/-- The Crane Tracker at RESTART: waiting messages are discarded, then every crane enters UNKNOWN (R61). -/
def State.restartCranes (s : State) : State :=
  (s.cranes.map Crane.num).foldl State.restartCrane { s with links := s.links.map (fun l => { l with waiting := [] }) }

/-- The Zone Arbiter at RESTART (R83). -/
def State.restartArbiter (s : State) : State :=
  { s with arbiter :=
    { s.arbiter with
      table := s.arbiter.table.map (fun (t : ZoneTable) => { t with zones := t.zones.map Zone.release })
      requests := [], nextArrival := 1, lastGranted := 0, examine := false } }

/-- The CANCELLED record of a running host request (R132, R148, R149). -/
def State.cancelledRecord (s : State) (r : WeighRequest) : ResultRecord :=
  { s.resultOf r .cancelled with verdict := if r.purpose = .read then none else some .notStored }

/-- The Weigh Engines at RESTART: the queue is emptied, a running READ, ZERO or SPAN writes its CANCELLED record to its slot
(R132). -/
def State.restartWeigh (s : State) : State :=
  let records := (s.weigh.queue.filter (fun r => r.isRunning && r.isHost)).map s.cancelledRecord
  let s := { s with weigh := { s.weigh with queue := [], nextArrival := 1, outbox := [] } }
  records.foldl State.writeSlot s

/-- A plan entry at RESTART: MOVING returns to WAITING (R111, R176). -/
def PlanEntry.restarted (e : PlanEntry) : PlanEntry :=
  match e.status with
  | .moving _ => { e with status := .waiting }
  | _ => e

/-- A bay record at RESTART, its outstanding requests gone (R164, R166, R176). DEDUCED, a presence frozen at ARRIVING or DEPARTING
changes as any other and keeps its frozen mark, notes/assumptions/87.md. -/
def Bay.restarted (x : Bay) (l : BayLines) : Bay :=
  { x with
    plan := x.plan.map PlanEntry.restarted
    cradles := x.cradles.map Place.unwound
    frontRequest := none, rearRequest := none, arrival := none, departure := none
    presence := match x.presence with
      | .arriving => .empty
      | .departing => .present
      | p => p
    security := (linesSecurity l).1
    stale := (linesSecurity l).2 }

/-- Whether the RESTART of a bay changes something its BAY_CHANGE notice reports (R156, R167). DEDUCED, the presence
among it, notes/assumptions/22.md. -/
def bayChanged (x y : Bay) : Bool :=
  x.plan != y.plan || x.presence != y.presence || x.security != y.security || x.stale != y.stale

/-- A PLACE of a round still in progress is placed again, with the retry count its request had (R176). DEDUCED, none on a
platform at level FAULT, where the round ends, notes/assumptions/80.md. -/
def State.placeAfresh (s : State) (b : Nat) (d : Side) (net : Option Int) (o : Option Outstanding) : State :=
  if net.isSome then s else s.placeOnPlatform b d ((o.map Outstanding.retry).getD 0)

/-- One bay at RESTART, after the weigh queue has been emptied: the record changes, the levels are judged afresh, and the
requests it still needs are placed again, TAREs before PLACEs (R164, R176). DEDUCED, notes/assumptions/69.md. -/
def State.restartBay (s : State) (b : Nat) : State :=
  match s.findBay b with
  | none => s
  | some x =>
    let y := x.restarted (s.linesOf b)
    let s := (s.updBay b (fun _ => y)).wantExam
    let s := if bayChanged x y then s.raise (.bayChange b) else s
    let s := (s.judgePresence b).taresStillNeeded b
    match x.round with
    | some r => (s.placeAfresh b .front r.frontNet x.frontRequest).placeAfresh b .rear r.rearNet x.rearRequest
    | none => s

/-- RESTART across the blocks, in one event (R183). DEDUCED, the order of the bays and of their requests,
notes/assumptions/69.md. -/
def State.restartAll (s : State) : State :=
  let s := s.restartMoves.restartCoils.restartStore
  let s := s.restartCranes.restartArbiter.restartWeigh
  (s.bays.map (fun x => x.cfg.num)).foldl State.restartBay s

/-- RESTART: restarts all activity and keeps what the store knows; answers with the live moves removed (R183). -/
def execRestart (seq : Nat) (s : State) : Result :=
  s.serve (.restart seq) (fun s =>
    s.effect State.restartAll (Answer.ok (.count (s.moves.recs.filter Move.live).length)))

end Sys2Proof.Machine
end

