-- ==== Sys2Proof/Machine/Layout.lean ====
section
/-! DEFINITION. The LAYOUT request: the checks of its five sections, and the replacement of the old definitions
(R20 to R23, R44, R62, R112, R135, R150, R180). -/

namespace Sys2Proof.Machine

/-- A refusal with OUT_OF_RANGE naming an item. -/
def outOf (it : Item) : Answer := Answer.refuseItem .outOfRange it

/-- A refusal with INVALID naming an item. -/
def badItem (it : Item) : Answer := Answer.refuseItem .invalid it

/-- The first number given twice in a list, if any. -/
def givenTwice : List Nat → Option Nat
  | [] => none
  | n :: rest => if rest.contains n then some n else givenTwice rest

/-- The first number given that lies outside 1 to `count`. -/
def numberOutside (count : Nat) (nums : List Nat) : Option Nat := nums.find? (fun n => !inRange 1 count n)

/-- The lowest number from 1 to `count` that is not given. -/
def numberMissing (count : Nat) (nums : List Nat) : Option Nat :=
  ((List.range count).map (fun i => i + 1)).find? (fun n => !nums.contains n)

/-- The crane number that spoils the numbering: given twice, outside 1 to the count, or missing, as R44 lists them. -/
def craneNumberFault (count : Nat) (nums : List Nat) : Option Nat :=
  (givenTwice nums).or ((numberOutside count nums).or (numberMissing count nums))

/-- The zone number that spoils the numbering: given twice or missing from 1 to the count, as R62 lists them. DEDUCED, a number
above the count where every number up to it is given once, notes/assumptions/74.md. -/
def zoneNumberFault (count : Nat) (nums : List Nat) : Option Nat :=
  (givenTwice nums).or ((numberMissing count nums).or (numberOutside count nums))

/-- The first check that fails. -/
def firstFail (l : List (Option Answer)) : Option Answer := l.findSome? id

/-- A field outside its range, named with the numbered thing it belongs to. -/
def fieldFail (kind : ItemKind) (num : Nat) (f : FieldName) (ok : Bool) : Option Answer :=
  if ok then none else some (outOf (.thing kind num (some f)))

/-! ### The zone section (R62) -/

/-- The zones of a section in order of number. -/
def sortedZones (z : ZoneSection) : List ZoneDef := z.zones.insertionSort (fun a b => a.num ≤ b.num)

/-- The start of zone 1 is 0, and each start is at least 2,000 mm after the one before it. -/
def zoneStartFail (l : List ZoneDef) : Option Answer :=
  match l with
  | [] => none
  | a :: rest =>
    if a.start ≠ 0 then some (outOf (.thing .zone a.num (some .start)))
    else ((a :: rest).zip rest).findSome? (fun p =>
      if p.1.start + 2000 ≤ p.2.start then none else some (outOf (.thing .zone p.2.num (some .start))))

/-- The last zone is at least 2,000 mm long. -/
def zoneLengthFail (length : Nat) (l : List ZoneDef) : Option Answer :=
  l.getLast?.bind (fun z => if z.start + 2000 ≤ length then none else some (outOf (.thing .zone z.num (some .length))))

/-- The bay a BAY zone names. -/
def zoneBay (z : ZoneDef) : Option Nat :=
  match z.kind with
  | .bay b => some b
  | _ => none

/-- The bay numbers of BAY zones lie in 1 to 4. -/
def zoneBayFail (l : List ZoneDef) : Option Answer :=
  l.findSome? (fun z => (zoneBay z).bind (fun b => fieldFail .zone z.num .kind (inRange 1 4 b)))

/-- No two BAY zones name the same bay; the later zone is named. -/
def zoneBayTwice (l : List ZoneDef) : Option Answer :=
  l.zipIdx.findSome? (fun zi =>
    if (zoneBay zi.1).isSome && (l.take zi.2).any (fun y => zoneBay y == zoneBay zi.1) then some (badItem (.thing .zone zi.1.num none))
    else none)

/-- The checks of the zone section (R62). DEDUCED, their order, notes/assumptions/9.md; the status of a zone number above the
count, notes/assumptions/74.md. -/
def zoneSectionFail (z : ZoneSection) : Option Answer :=
  firstFail [
    if inRange 20000 200000 z.length then none else some (outOf (.field .length)),
    if inRange 2 32 z.count then none else some (outOf (.field .count)),
    (zoneNumberFault z.count (z.zones.map ZoneDef.num)).map (fun n => badItem (.thing .zone n none)),
    zoneStartFail (sortedZones z), zoneLengthFail z.length (sortedZones z), zoneBayFail (sortedZones z), zoneBayTwice (sortedZones z)]

/-- The zone table a section defines: every zone OPEN with no owner (R62). -/
def sectionTable (z : ZoneSection) : ZoneTable :=
  { length := z.length, zones := (sortedZones z).map (fun d => { start := d.start, kind := d.kind, state := .open, owner := none }) }

/-! ### The crane section (R44) -/

/-- The checks of the crane section (R44). DEDUCED, their order, notes/assumptions/9.md. -/
def craneSectionFail (c : CraneSection) : Option Answer :=
  firstFail [
    if inRange 1 3 c.count then none else some (badItem (.field .count)),
    (craneNumberFault c.count (c.cranes.map CraneDef.num)).map (fun n => badItem (.thing .crane n none)),
    (c.cranes.insertionSort (fun a b => a.num ≤ b.num)).findSome? (fun d =>
      (fieldFail .crane d.num .halfLength (inRange 1000 8000 d.halfLength)).or
        (fieldFail .crane d.num .tare (inRange 0 10000 d.tare)))]

/-! ### The store section (R20 to R23) -/

/-- The row fields in the order of the table of R20. DEDUCED, the status of a row number outside 1 to 48,
notes/assumptions/73.md. -/
def rowFail (r : RowDef) : Option Answer :=
  let f := fun name ok => fieldFail .row r.num name ok
  firstFail [
    f .number (inRange 1 48 r.num),
    f .x (inRange 0 200000 r.x),
    f .y0 (inRange 0 60000 r.y0 && decide (r.y0 + (r.count - 1) * r.pitch ≤ 60000)),
    f .pitch (inRange 800 3000 r.pitch && decide (r.pitch % 2 = 0)),
    f .count (inRange 1 20 r.count),
    f .mask (r.classes != 0),
    f .maxWidth (inRange 500 2200 r.maxWidth),
    f .maxDiameter (inRange 600 2400 r.maxDiameter && decide (r.maxDiameter ≤ r.pitch)),
    f .floorLimit (inRange 5000 100000 r.floorLimit),
    f .bearing (inRange 50 200 r.bearing),
    f .mismatch (inRange 0 600 r.mismatch),
    f .penalty (inRange 0 1000 r.penalty)]

/-- The saddle fields (R22). DEDUCED, the status of a saddle number outside 1 to 4, notes/assumptions/73.md. -/
def saddleFail (d : SaddleDef) : Option Answer :=
  firstFail [
    fieldFail .saddle d.num .number (inRange 1 4 d.num),
    fieldFail .saddle d.num .x (inRange 0 200000 d.x),
    fieldFail .saddle d.num .y (inRange 0 60000 d.y)]

/-- A place that takes over the state and mark of an old one, or is FREE and unblocked (R23). -/
def takeOver (old : Option Place) : Place := old.getD { state := .free, blocked := false }

/-- The number of nest positions of a row (R21). -/
def nestCount (r : RowDef) : Nat := if r.nests then r.count - 1 else 0

/-- The rows of a section in order of number: the order in which they are listed has no effect (R20). -/
def sortedRows (d : StoreSection) : List RowDef := d.rows.insertionSort (fun a b => a.num ≤ b.num)

/-- The saddles of a section in order of number (R22). -/
def sortedSaddles (d : StoreSection) : List SaddleDef := d.saddles.insertionSort (fun a b => a.num ≤ b.num)

/-- The store a section defines, its places taking over what stood at the same places (R23). -/
def State.newStore (s : State) (d : StoreSection) : Store :=
  { rows := (sortedRows d).map (fun r =>
      { cfg := r
        floors := (List.range r.count).map (fun i => takeOver (s.findPlace (.floor r.num (i + 1))))
        nests := (List.range (nestCount r)).map (fun i => takeOver (s.findPlace (.nest r.num (i + 1)))) })
    saddles := (sortedSaddles d).map (fun x =>
      { cfg := x, place := takeOver (s.findPlace (.entry x.num)) }) }

/-- The coil at a place of the old store, where the new one does not define its place or it does not fit there (R23).
DEDUCED, a coil on a nest that the new section does not define counts 0 in the floor load beneath it, notes/assumptions/81.md. -/
def State.coilSpoilt (s new : State) (p : PlaceRef) : Option Answer :=
  ((s.findPlace p).bind (fun x => x.state.coil?)).bind (fun id =>
    (s.findCoil id).bind (fun c =>
      if (new.findPlace p).isSome && new.fits none p c then none else some (badItem (.coil id))))

/-- The places of the store in the order of R23: rows by number, then saddles. -/
def State.placesInOrder (s : State) : List PlaceRef :=
  s.store.rows.flatMap Row.places ++ s.store.saddles.map (fun d => PlaceRef.entry d.cfg.num)

/-- The checks of the store section (R20, R22, R23). DEDUCED, their order, notes/assumptions/9.md; the status of a section with
no rows or no saddles, notes/assumptions/73.md. -/
def State.storeSectionFail (s : State) (d : StoreSection) : Option Answer :=
  firstFail [
    if d.rows.isEmpty then some (outOf (.part .store)) else none,
    (givenTwice ((sortedRows d).map RowDef.num)).map (fun n => badItem (.thing .row n none)),
    (sortedRows d).findSome? rowFail,
    if d.saddles.isEmpty then some (outOf (.part .store)) else none,
    (givenTwice ((sortedSaddles d).map SaddleDef.num)).map (fun n => badItem (.thing .saddle n none)),
    (sortedSaddles d).findSome? saddleFail,
    let new : State := { s with store := s.newStore d }
    s.placesInOrder.findSome? (s.coilSpoilt new)]

/-! ### The bay section (R150) -/

/-- The fields of a bay (R150). -/
def bayFail (d : BayDef) : Option Answer :=
  firstFail [
    fieldFail .bay d.num .zone (inRange 1 32 d.zone),
    fieldFail .bay d.num .kingpin (inRange 0 200000 d.kingpin),
    fieldFail .bay d.num .direction (d.dir == 1 || d.dir == -1),
    fieldFail .bay d.num .y (inRange 0 60000 d.y)]

/-- Whether a bay is live: its phase is not NONE or its presence not EMPTY (R150). -/
def Bay.inUse (x : Bay) : Bool := x.phase != .none || x.presence != .empty

/-- The checks of the bay section (R150). DEDUCED, their order, notes/assumptions/9.md. -/
def State.baySectionFail (s : State) (l : List BayDef) : Option Answer :=
  firstFail [
    (givenTwice (l.map BayDef.num)).map (fun n => badItem (.thing .bay n none)),
    (l.find? (fun d => !inRange 1 4 d.num)).map (fun d => badItem (.thing .bay d.num none)),
    l.findSome? bayFail,
    s.bays.findSome? (fun x => if x.inUse && !l.contains x.cfg then some (badItem (.thing .bay x.cfg.num none)) else none)]

/-- A bay just defined, with its security from the lines (R151, R156). -/
def State.newBay (s : State) (d : BayDef) : Bay :=
  let faulted := s.platformFault d.num
  let sec := linesSecurity (s.linesOf d.num)
  { cfg := d, presence := .empty, frozen := faulted, arrival := none, departure := none, phase := .none,
    hold := if faulted then some .platformFault else none, security := sec.1, stale := sec.2, lamp := .off,
    frontCandidate := none, rearCandidate := none, frontTare := none, rearTare := none, tareRetry := false,
    frontRequest := none, rearRequest := none, truck := none, cradles := [], plan := [], predicted := none,
    frontNet := none, rearNet := none, planCheck := none, round := none }

/-! ### The channel section (R112, R135) -/

/-- The fields and conditions of one channel (R112, R135). DEDUCED, the status of a channel number outside 0 to 13,
notes/assumptions/73.md. -/
def chanFail (d : ChanDef) : Option Answer :=
  let f := fun name ok => fieldFail .channel d.num name ok
  firstFail [
    f .number (inRange 0 13 d.num),
    f .order (inRange 1 4 d.cfg.order),
    f .decimation (inRange 4 256 d.cfg.decim),
    f .integration (inRange 1 256 d.cfg.integ),
    f .shift (inRange 0 24 d.cfg.shift),
    f .fastOrder (inRange 1 3 d.cfg.fastOrder),
    f .fastDecimation (inRange 4 128 d.cfg.fastDecim),
    if d.cfg.noOverflow && d.cfg.scale?.isSome then none else some (outOf (.thing .channel d.num none))]

/-- The second of the two channels of one hoist, where both are named with different fields (R112). -/
def pairFail (l : List ChanDef) : Option Answer :=
  l.zipIdx.findSome? (fun di =>
    if di.1.num < 6 && (l.take di.2).any (fun y => y.num / 2 == di.1.num / 2 && y.cfg != di.1.cfg) then
      some (badItem (.thing .channel di.1.num none))
    else none)

/-- The checks of the channel section, in the order in which R112 lists the refusals: each channel's fields and conditions, a
channel given twice, the hoist pairs. DEDUCED, that order, notes/assumptions/9.md. -/
def chanSectionFail (l : List ChanDef) : Option Answer :=
  firstFail [
    l.findSome? chanFail,
    (givenTwice (l.map ChanDef.num)).map (fun n => badItem (.thing .channel n none)),
    pairFail l]

/-- A channel configured by its settings: RUNNING with its filters restarted (R112, R135). DEDUCED, notes/assumptions/11.md. -/
def configuredChannel (d : ChanDef) : Channel :=
  Channel.restart { Channel.unconfigured with cfg := some d.cfg, scale := d.cfg.scale?.getD 0 }

/-! ### The checks in their order (R180) -/

/-- The first section that fails, in the order zone, crane, store, bay, channel (R180). -/
def State.layoutRefusal (s : State) (b : LayoutBody) : Option Answer :=
  firstFail [
    b.zone.bind zoneSectionFail, b.crane.bind craneSectionFail, b.store.bind s.storeSectionFail, b.bay.bind s.baySectionFail,
    b.channel.bind chanSectionFail]

/-! ### The replacement (R180) -/

/-- The zone section replaces the zone table and the policy (R62). -/
def State.applyZones (s : State) (z : ZoneSection) : State :=
  { s with arbiter := { s.arbiter with table := some (sectionTable z), policy := z.policy.getD .age } }

/-- A crane just defined (R44, R46). -/
def State.newCrane (s : State) (d : CraneDef) : Crane :=
  { num := d.num, halfLength := d.halfLength, tare := d.tare, tracking := .unknown, lastPos := none, tongs := .opened,
    load := .free, run := none, window := none,
    travel := { setup := true, unknown := true, lost := false, breach := false, bay := false },
    raise := { overload := false, fault := !s.pointRunning (.hoist d.num), strayGrip := false },
    liftPeak := none, fresh := none, slack := none }

/-- The crane section: kept cranes take their new fields, the others are made or lost (R44). -/
def State.applyCranes (s : State) (c : CraneSection) : State :=
  { s with cranes := (c.cranes.insertionSort (fun a b => a.num ≤ b.num)).map (fun d =>
      match s.findCrane d.num with
      | some k => { k with halfLength := d.halfLength, tare := d.tare }
      | none => s.newCrane d) }

/-- Zones owned by a crane that is no longer defined lose their owner (R44, R53). -/
def State.releaseUndefined (s : State) : State :=
  { s with arbiter := { s.arbiter with
      table := s.arbiter.table.map (fun (t : ZoneTable) =>
        { t with zones := t.zones.map (fun z =>
            match z.owner with
            | some n => if s.craneDefined n then z else z.release
            | none => z) }) } }

/-- Every crane enters UNKNOWN at a zone or crane section (R44, R53). -/
def State.allUnknown (s : State) : State := ((s.cranes.map Crane.num).foldl State.enterUnknown s).releaseUndefined

/-- FAULT in a crane's raise inhibit reason set after a channel section (R59, R112). -/
def State.craneFaultAfter (s : State) (n : Nat) : State :=
  if s.unconfigured (.hoist n) then s.updRaise n (fun r => { r with fault := true }) else s.clearCraneFault n

/-- The platform levels of a bay after a channel section: NONE, the front handed before the rear, with what follows, and the
TAREs of the platforms that now run (R122, R154, R159). DEDUCED, the order, notes/assumptions/66.md. -/
def State.levelsAfter (s : State) (b : Nat) : State :=
  ((s.setLevel b .front .none).setLevel b .rear .none).taresStillNeeded b

/-- The channel section replaces every channel's settings; running weigh requests end CANCELLED (R112). -/
def State.applyChannels (s : State) (l : List ChanDef) : State :=
  let s : State := { s with channels := (List.range 14).map (fun ch =>
      match l.find? (fun d => d.num == ch) with
      | some d => configuredChannel d
      | none => Channel.unconfigured) }
  let s := s.endRequests WeighRequest.isRunning .cancelled
  let s := (s.cranes.map Crane.num).foldl State.craneFaultAfter s
  ((s.bays.map (fun x => x.cfg.num)).foldl State.levelsAfter s).allocate

/-- A platform level of a bay just defined, or of one that is gone (R122, R150). -/
def State.freshLevel (s : State) (b : Nat) (d : Side) : State :=
  let l : Level := if (s.findBay b).isSome && (d.point b).channels.any (fun ch => (s.channel ch).faulted) then .fault else .none
  s.updPoint (d.point b) (fun p => { p with level := l })

/-- The bay section: a bay with unchanged fields keeps its record, any other is made afresh (R150). -/
def State.applyBays (s : State) (l : List BayDef) : State :=
  let kept := fun (d : BayDef) => s.bays.any (fun x => x.cfg == d)
  let s' : State := { s with bays := (l.insertionSort (fun a b => a.num ≤ b.num)).map (fun d =>
      match s.findBay d.num with
      | some x => if x.cfg = d then x else s.newBay d
      | none => s.newBay d) }
  [1, 2, 3, 4].foldl (fun (t : State) b =>
    if l.any (fun d => d.num == b && kept d) then t else (t.freshLevel b .front).freshLevel b .rear) s'

/-- An optional section applied. -/
def applySection {α : Type} (o : Option α) (f : State → α → State) (s : State) : State :=
  match o with
  | some a => f s a
  | none => s

/-- Every section carried replaces its old definition, in one event (R180). DEDUCED, notes/assumptions/10.md. -/
def State.applyLayout (s : State) (b : LayoutBody) : State :=
  let s := applySection b.crane State.applyCranes (applySection b.zone State.applyZones s)
  let s := if b.zone.isSome || b.crane.isSome then s.allUnknown else s
  let s := applySection b.store (fun s d => { s with store := s.newStore d }) s
  applySection b.bay State.applyBays (applySection b.channel State.applyChannels s)

/-- The channel section as it stands. -/
def State.channelDefs (s : State) : List ChanDef :=
  s.channels.zipIdx.filterMap (fun ci => ci.1.cfg.map (fun cfg => { num := ci.2, cfg := cfg }))

/-- The zone section that defines a zone table with its policy (R62). -/
def ZoneTable.section (t : ZoneTable) (p : Policy) : ZoneSection :=
  { length := t.length, count := t.zones.length, policy := some p
    zones := t.zones.zipIdx.map (fun zi => { num := zi.2 + 1, start := zi.1.start, kind := zi.1.kind }) }

/-- A section as it stands, absent where it is empty. -/
def sectionOf {α β : Type} (l : List α) (f : List α → β) : Option β := if l.isEmpty then none else some (f l)

/-- The five sections as they stand, an empty one absent (R180). DEDUCED, notes/assumptions/57.md. -/
def State.layoutSections (s : State) : LayoutBody :=
  { zone := s.arbiter.table.map (fun t => t.section s.arbiter.policy)
    crane := sectionOf s.cranes (fun l =>
      { count := l.length, cranes := l.map (fun c => { num := c.num, halfLength := c.halfLength, tare := c.tare }) })
    store := sectionOf s.store.rows (fun l => { rows := l.map Row.cfg, saddles := s.store.saddles.map Saddle.cfg })
    bay := sectionOf s.bays (fun l => l.map Bay.cfg)
    channel := sectionOf s.channelDefs id }

/-- The five sections as they stand (R180). -/
def State.layoutAnswer (s : State) : Answer := Answer.ok (.layout s.layoutSections)

/-- Whether a LAYOUT carries no section. -/
def emptyLayout (b : LayoutBody) : Bool :=
  b.zone.isNone && b.crane.isNone && b.store.isNone && b.bay.isNone && b.channel.isNone

/-- LAYOUT: replaces the sections it carries; with none it returns the five sections (R180). -/
def execLayout (seq : Nat) (body : LayoutBody) (s : State) : Result :=
  s.serve (.layout seq body) (fun s =>
    if s.port.mode = .run then (s, Answer.refuse .wrongMode)
    else if emptyLayout body then (s, s.layoutAnswer)
    else match s.layoutRefusal body with
      | some a => (s, a)
      | none => s.effect (fun s => s.applyLayout body) (Answer.ok .none))

end Sys2Proof.Machine
end

