-- ==== Sys2Proof/Machine/ModeRequests.lean ====
section
/-! DEFINITION. The requests on the mode and the settings: MODE SETUP, MODE RUN, SETTINGS (R179, R181, R182). -/

namespace Sys2Proof.Machine

/-! ### MODE SETUP (R179) -/

/-- Whether MODE SETUP is refused: a live move, or a crane that is LOADED or RESTING (R179). -/
def State.working (s : State) : Bool := s.moves.recs.any Move.live || s.cranes.any (fun c => c.load != .free)

/-- The mode changes, and SETUP is added to or removed from every crane's travel inhibit reason set (R58, R179). -/
def State.setMode (s : State) (m : Mode) : State :=
  { s with
    port := { s.port with mode := m }
    cranes := s.cranes.map (fun c => { c with travel := { c.travel with setup := m == .setup } }) }

/-- MODE SETUP (R179). -/
def execModeSetup (seq : Nat) (s : State) : Result :=
  s.serve (.modeSetup seq) (fun s =>
    if s.port.mode = .setup then (s, Answer.ok .none)
    else if s.working then (s, Answer.refuse .busy)
    else (s.setMode .setup, Answer.ok .none))

/-! ### The validation of MODE RUN (R24, R44, R64, R112, R182) -/

/-- The kind of the zone an X lies in (R63). -/
def State.kindAt (s : State) (x : Int) : Option ZoneKind :=
  (s.arbiter.table.bind (fun t => (t.zoneAt x).bind t.zone?)).map Zone.kind

/-- Whether the bay section gives a bay a zone that is a BAY zone naming that bay (R64 step 3). -/
def ZoneTable.servesBay (t : ZoneTable) (x : Bay) : Bool :=
  match t.zone? x.cfg.zone with
  | some z => z.kind == .bay x.cfg.num
  | none => false

/-- The Zone Arbiter's checks (R64). -/
def State.arbiterInvalid (s : State) : Option Item :=
  match s.arbiter.table with
  | none => some (.part .zone)
  | some t =>
    (t.zones.zipIdx.findSome? (fun zi =>
      match zi.1.kind with
      | .bay b => if (s.findBay b).isSome then none else some (.thing .zone (zi.2 + 1) none)
      | _ => none)).or
    (s.bays.findSome? (fun x => if t.servesBay x then none else some (.thing .bay x.cfg.num none)))

/-- The coil at a place, where it fails the fit of its place (R24 step 4). -/
def State.unfitAt (s : State) (p : PlaceRef) : Option Item :=
  ((s.findPlace p).bind (fun x => x.state.coil?)).bind (fun id =>
    (s.findCoil id).bind (fun c => if s.fits none p c then none else some (.coil id)))

/-- The floor position, where its floor load figure is above its limit (R24 step 5, R27). -/
def State.overloadedAt (s : State) (row : Row) : PlaceRef → Option Item
  | .floor r g => if s.floorLoad r g ≤ 2 * row.cfg.floorLimit then none else some (.floorPos r g)
  | _ => none

/-- The Store Map's checks (R24). -/
def State.storeInvalid (s : State) : Option Item :=
  if s.store.rows.isEmpty || s.store.saddles.isEmpty then some (.part .store)
  else
    (s.store.rows.findSome? (fun row =>
      if s.kindAt row.cfg.x = some .store then none else some (.thing .row row.cfg.num none))).or <|
    (s.store.saddles.findSome? (fun d =>
      if s.kindAt d.cfg.x = some .entry then none else some (.thing .saddle d.cfg.num none))).or <|
    (s.store.rows.findSome? (fun row => row.places.findSome? s.unfitAt)).or <|
    (s.store.rows.findSome? (fun row => row.places.findSome? (s.overloadedAt row)))

/-- The Crane Tracker's checks (R44, R182). -/
def State.cranesInvalid (s : State) : Option Item :=
  if s.cranes.isEmpty then some (.part .crane)
  else s.cranes.findSome? (fun c =>
    if 2 * c.halfLength ≤ (s.arbiter.table.map ZoneTable.length).getD 0 then none else some (.thing .crane c.num none))

/-- Whether a channel belongs to a defined crane or a defined bay (R112). -/
def State.channelNeeded (s : State) (ch : Nat) : Bool :=
  match pointOfChannel ch with
  | .hoist n => s.craneDefined n
  | .front b => (s.findBay b).isSome
  | .rear b => (s.findBay b).isSome

/-- The Front End's checks (R112, R182). -/
def State.channelsInvalid (s : State) : Option Item :=
  if s.channels.all (fun c => c.state == .unconfigured) then some (.part .channel)
  else (List.range 14).findSome? (fun ch =>
    if s.channelNeeded ch && (s.channel ch).state == .unconfigured then some (.thing .channel ch none) else none)

/-- The first failing item of the validation, in the four steps of R182. -/
def State.runInvalid (s : State) : Option Item :=
  s.arbiterInvalid.or (s.storeInvalid.or (s.cranesInvalid.or s.channelsInvalid))

/-- MODE RUN: validates the unit and enters RUN (R179, R182). -/
def execModeRun (seq : Nat) (s : State) : Result :=
  s.serve (.modeRun seq) (fun s =>
    if s.port.mode = .run then (s, Answer.ok .none)
    else match s.runInvalid with
      | some it => (s, Answer.refuseItem .invalid it)
      | none => (s.setMode .run, Answer.ok .none))

/-! ### SETTINGS (R181) -/

/-- The value of a setting in force. DEDUCED, auto-yield 1 for on and 0 for off, notes/assumptions/85.md. -/
def settingOf (t : Settings) : SettingKey → Nat
  | .freshness => t.freshness
  | .tolerance => t.tolerance
  | .autoYield => if t.autoYield then 1 else 0
  | .stuckRun => t.stuckRun
  | .overload => t.overload
  | .slack => t.slack
  | .arrivalThreshold => t.arrivalThreshold
  | .emptyThreshold => t.emptyThreshold
  | .slackTime => t.slackTime
  | .settleTimeout => t.settleTimeout
  | .division wp => t.divisions.getD wp.index 10
  | .window => t.window
  | .band => t.band
  | .allowance => t.allowance
  | .ratio => t.ratio
  | .arrivalTime => t.arrivalTime
  | .departureTime => t.departureTime
  | .bayAllowance => t.bayAllowance
  | .bayRatio => t.bayRatio

/-- The range of a setting (R45, R80, R118, R140 to R142, R152, R175). DEDUCED, 0 and 1 for auto-yield,
notes/assumptions/85.md. -/
def settingRange : SettingKey → Nat × Nat
  | .freshness => (100, 2000)
  | .tolerance => (50, 500)
  | .autoYield => (0, 1)
  | .stuckRun => (16, 255)
  | .overload => (1000, 60000)
  | .slack => (0, 5000)
  | .arrivalThreshold => (500, 10000)
  | .emptyThreshold => (100, 5000)
  | .slackTime => (100, 1000)
  | .settleTimeout => (500, 10000)
  | .division _ => (5, 50)
  | .window => (2, 16)
  | .band => (0, 3)
  | .allowance => (0, 2000)
  | .ratio => (0, 50)
  | .arrivalTime => (1, 10)
  | .departureTime => (1, 30)
  | .bayAllowance => (0, 2000)
  | .bayRatio => (0, 100)

/-- Whether a value out of range is clamped (R181). -/
def settingClamps : SettingKey → Bool
  | .freshness => true
  | .slackTime => true
  | .settleTimeout => true
  | .arrivalTime => true
  | .departureTime => true
  | _ => false

/-- The value a setting takes from a value given: clamped where its rule clamps it (R181). -/
def settingTaken (i : SettingItem) : Nat :=
  if settingClamps i.key then clampNat (settingRange i.key).1 (settingRange i.key).2 i.value else i.value

/-- Whether the owning rule of a setting takes a value; a division is one of four values (R140, R181). -/
def settingAllowed (i : SettingItem) : Bool :=
  settingClamps i.key ||
    (inRange (settingRange i.key).1 (settingRange i.key).2 i.value &&
      match i.key with
      | .division wp => wp.valid && (i.value == 5 || i.value == 10 || i.value == 20 || i.value == 50)
      | _ => true)

/-- The settings with one of them replaced. DEDUCED, notes/assumptions/35.md. -/
def settingWrite (t : Settings) (i : SettingItem) : Settings :=
  let v := settingTaken i
  match i.key with
  | .freshness => { t with freshness := v }
  | .tolerance => { t with tolerance := v }
  | .autoYield => { t with autoYield := v != 0 }
  | .stuckRun => { t with stuckRun := v }
  | .overload => { t with overload := v }
  | .slack => { t with slack := v }
  | .arrivalThreshold => { t with arrivalThreshold := v }
  | .emptyThreshold => { t with emptyThreshold := v }
  | .slackTime => { t with slackTime := v }
  | .settleTimeout => { t with settleTimeout := v }
  | .division wp => { t with divisions := t.divisions.set wp.index v }
  | .window => { t with window := v }
  | .band => { t with band := v }
  | .allowance => { t with allowance := v }
  | .ratio => { t with ratio := v }
  | .arrivalTime => { t with arrivalTime := v }
  | .departureTime => { t with departureTime := v }
  | .bayAllowance => { t with bayAllowance := v }
  | .bayRatio => { t with bayRatio := v }

/-- Every setting, in the order of the table of R181; the divisions in the order of 0.7.7. -/
def allSettings : List SettingKey :=
  [.freshness, .tolerance, .autoYield, .stuckRun, .overload, .slack, .arrivalThreshold, .emptyThreshold, .slackTime,
    .settleTimeout] ++ allPoints.map SettingKey.division ++
  [.window, .band, .allowance, .ratio, .arrivalTime, .departureTime, .bayAllowance, .bayRatio]

/-- Whether a setting is one of E and A, whose relation R118 fixes. -/
def isThreshold (k : SettingKey) : Bool := k == .emptyThreshold || k == .arrivalThreshold

/-- The first item that refuses the request, in the order given (R181). -/
def settingsRefusal (after : Settings) (items : List SettingItem) : Option SettingItem :=
  items.find? (fun i =>
    !settingAllowed i || (isThreshold i.key && decide (after.arrivalThreshold ≤ after.emptyThreshold)))

/-- The settings named, each with the value in force and its clamped mark (R181). -/
def settingsAnswer (t : Settings) (items : List SettingItem) : Answer :=
  Answer.ok (.settings (items.map (fun i =>
    { key := i.key, value := settingOf t i.key, clamped := settingTaken i != i.value })))

/-- New settings take effect; a new position tolerance recomputes every narrowed window in the same event (R45). -/
def State.useSettings (s : State) (t : Settings) : State :=
  let s' := { s with settings := t }
  if t.tolerance = s.settings.tolerance then s' else (s.cranes.map Crane.num).foldl State.refreshWindow s'

/-- SETTINGS: replaces the named settings together; with none named, returns every setting (R181). -/
def execSettings (seq : Nat) (items : List SettingItem) (s : State) : Result :=
  s.serve (.settings seq items) (fun s =>
    if items.isEmpty then
      (s, Answer.ok (.settings (allSettings.map (fun k => { key := k, value := settingOf s.settings k, clamped := false }))))
    else
      let after := items.foldl settingWrite s.settings
      match settingsRefusal after items with
      | some i => (s, Answer.refuseItem .outOfRange (.setting i.key))
      | none => s.effect (fun s => s.useSettings after) (settingsAnswer after items))

end Sys2Proof.Machine
end

