-- ==== Sys2Proof/Machine/NoticeRequests.lean ====
section
/-! DEFINITION. The requests on the notices: NOTICES, ACK, ENABLE (R184). -/

namespace Sys2Proof.Machine

/-- The answer of NOTICES (R184). -/
def State.noticesAnswer (s : State) : Answer :=
  Answer.ok (.notices s.port.flags s.port.mask s.port.departures s.port.dropped (s.links.map Link.dropped))

/-- NOTICES: every flag, the enable mask, the DEPARTURE data and the dropped-frame counts (R184). -/
def execNotices (seq : Nat) (s : State) : Result := s.reply (.notices seq) State.noticesAnswer

/-- The flags and the mask as they stand (R184). -/
def State.flagsAnswer (s : State) : Answer := Answer.ok (.flags s.port.flags s.port.mask)

/-- ACK: clears the named flags (R184). -/
def execAck (seq : Nat) (flags : BitVec 44) (s : State) : Result :=
  s.serve (.ack seq flags) (fun s =>
    let s' := { s with port := s.port.ack flags }
    (s', s'.flagsAnswer))

/-- ENABLE: the named flags become the whole enable mask (R184). -/
def execEnable (seq : Nat) (flags : BitVec 44) (s : State) : Result :=
  s.serve (.enable seq flags) (fun s =>
    let s' := { s with port := { s.port with mask := flags } }
    (s', s'.flagsAnswer))

end Sys2Proof.Machine
end

