-- ==== Sys2Proof/Machine/StoreRequests.lean ====
section
/-! DEFINITION. The requests on the Store Map: PLACE, FIND, PROBE, BLOCK, UNBLOCK (chapter 2). -/

namespace Sys2Proof.Machine

/-! ### PLACE (R42) -/

/-- The checks of PLACE in their order; none when all pass (R42). -/
def State.placeRefusal (s : State) (id : Ident) (pos : StorePos) (c : Coil) : Option Answer :=
  if s.port.mode = .run then some (Answer.refuse .wrongMode)
  else if !identOk id then some (Answer.refuse .badIdent)
  else match fieldOutOfRange c.recorded c.diameter c.width c.cls with
    | some f => some (Answer.refuseItem .outOfRange (.field f))
    | none =>
      if (s.findPlace pos.ref).isNone then some (Answer.refuse .unknown)
      else if s.coilExists id then some (Answer.refuse .duplicate)
      else if !s.placeOpen pos.ref then some (Answer.refuse .placeBusy)
      else if !s.fits none pos.ref c then some (Answer.refuse .unfit)
      else if s.coilTableFull then some (Answer.refuse .tableFull)
      else none

/-- PLACE: the record of a coil already lying at a floor or nest position (R42). -/
def execPlace (seq : Nat) (id : Ident) (pos : StorePos) (weight diameter width cls : Nat) (bearing hold : Option Bool)
    (s : State) : Result :=
  s.serve (.place seq id pos weight diameter width cls bearing hold) (fun s =>
    let c := newCoil id weight diameter width cls bearing hold (.place pos.ref)
    match s.placeRefusal id pos c with
    | some a => (s, a)
    | none =>
      let s' := s.addCoil c pos.ref
      (s', s'.coilAnswer id))

/-! ### FIND (R39) -/

/-- The place the slot finder counts as OUTGOING in a FIND: the location of a coil that is the subject of a live move
(R37, R39). -/
def findSource (c : Coil) : Option PlaceRef := if c.move.isSome then c.loc.place? else none

/-- The answer of FIND for a coil (R39). -/
def State.findAnswer (s : State) (c : Coil) (count : Nat) : Answer :=
  if !inRange 1 8 count then Answer.refuseItem .outOfRange (.field .count)
  else match s.refX c with
    | none => Answer.refuse .noPosition
    | some x =>
      let l := s.candidates (findSource c) c x
      if l.isEmpty then { status := .noPlace, item := none, data := .found [] 0 (s.coilTrapped c) }
      else Answer.ok (.found ((l.take count).map (fun k => (k.place, k.cost))) l.length (s.coilTrapped c))

/-- FIND: the best candidates of the slot finder (R39). -/
def execFind (seq : Nat) (id : Ident) (count : Option Nat) (s : State) : Result :=
  s.reply (.find seq id count) (fun s =>
    if !identOk id then Answer.refuse .badIdent
    else match s.findCoil id with
      | none => Answer.refuse .unknown
      | some c => s.findAnswer c (count.getD 1))

/-! ### PROBE (R40) -/

/-- The states of the two supports of a nest (R40). -/
def State.supportStates (s : State) (r u : Nat) : Option (PlaceState × PlaceState) :=
  match s.findPlace (.floor r u), s.findPlace (.floor r (u + 1)) with
  | some a, some b => some (a.state, b.state)
  | _, _ => none

/-- A place as PROBE returns it (R40). -/
def State.placeView (s : State) (p : PlaceRef) : Option PlaceView :=
  match s.findPlace p, s.placePos p with
  | some x, some pos => some
    { place := p, pos := pos, state := x.state, blocked := x.blocked,
      load := match p with
        | .floor r g => (s.findRow r).map (fun row => (s.floorLoad r g, 2 * row.cfg.floorLimit))
        | _ => none
      supports := match p with
        | .nest r u => s.supportStates r u
        | _ => none }
  | _, _ => none

/-- The state of the zone an X lies in (R40, R63). DEDUCED, where it lies in none, notes/assumptions/55.md. -/
def State.zoneStateAt (s : State) (x : Int) : Option ZoneState :=
  (s.arbiter.table.bind (fun t => (t.zoneAt x).bind t.zone?)).map Zone.state

/-- The answer of PROBE for one place (R40). -/
def State.probePlace (s : State) (p : PlaceRef) : Answer :=
  match s.placeView p with
  | some v => Answer.ok (.place v)
  | none => Answer.refuse .unknown

/-- PROBE: the state of one place or of a whole row (R40). -/
def execProbe (seq : Nat) (what : ProbeTarget) (s : State) : Result :=
  s.reply (.probe seq what) (fun s =>
    match what with
    | .floor r g => s.probePlace (.floor r g)
    | .nest r u => s.probePlace (.nest r u)
    | .entry n => s.probePlace (.entry n)
    | .row r => match s.findRow r with
      | some row => Answer.ok (.row (row.places.filterMap s.placeView) row.cfg (s.zoneStateAt row.cfg.x))
      | none => Answer.refuse .unknown)

/-! ### BLOCK and UNBLOCK (R41) -/

/-- The places BLOCK and UNBLOCK act on; none where the layout or the truck does not define what is named (R41, R166). -/
def State.blockPlaces (s : State) : BlockTarget → Option (List PlaceRef)
  | .place p => (s.findPlace p).map (fun _ => [p])
  | .row r => (s.findRow r).map Row.places

/-- Sets or clears the blocked mark of what is named; the states of the places play no part (R26, R41). -/
def State.markBlocked (s : State) (what : BlockTarget) (mark : Bool) : State × Answer :=
  orUnknown (s.blockPlaces what) s (fun l =>
    (l.foldl (fun s p => s.updPlace p (fun x => { x with blocked := mark })) s, Answer.ok .none))

/-- BLOCK: sets the blocked mark of a place, a cradle, or every place of a row (R41). -/
def execBlock (seq : Nat) (what : BlockTarget) (s : State) : Result :=
  s.serve (.block seq what) (fun s => s.markBlocked what true)

/-- UNBLOCK: clears the blocked mark of a place, a cradle, or every place of a row (R41). -/
def execUnblock (seq : Nat) (what : BlockTarget) (s : State) : Result :=
  s.serve (.unblock seq what) (fun s => s.markBlocked what false)

end Sys2Proof.Machine
end

