-- ==== Sys2Proof/Machine/WeighEvents.lean ====
section
/-! DEFINITION. What happens in the Weigh Engines: a gross sample, a settle timer that runs out, and the calibration switch
(R128, R134, R139 to R141, R145). -/

namespace Sys2Proof.Machine

/-- The latest gross samples an engine keeps: the longest window of R141. -/
def keptSamples : Nat := 16

/-- The run of a request with its next gross sample formed (R139). -/
def State.sampled (s : State) (wp : WeighPoint) (e : EngineRun) (chans : List ChanSample) : EngineRun :=
  let g := grossSampleOf chans (s.tareOf wp) (s.division wp)
  { e.dropSamples with samples := (g :: e.samples).take keptSamples }

/-- Whether the samples of a weigh point complete a stable window (R141). -/
def State.stable (s : State) (wp : WeighPoint) (samples : List GrossSample) : Bool :=
  stableWindow s.settings.window ((s.settings.band * s.division wp : Nat) : Int) samples

/-- A gross sample of a running request: it joins the samples, and ends the request STABLE where it completes a window
(R128, R141). -/
def State.grossSample (s : State) (r : WeighRequest) (e : EngineRun) (chans : List ChanSample) : State :=
  let e' := s.sampled r.point e chans
  let mine := fun (x : WeighRequest) => x.arrival == r.arrival
  let s := s.updRequests mine (fun x => { x with run := some e' })
  if s.stable r.point e'.samples then (s.endRequests mine .stable).allocate else s

/-- GROSS_SAMPLE: the samples of a weigh point's channels form its next gross sample (R128, R134). Without a running request, or
while a channel's sample is still to come, there is none to form. -/
def execGrossSample (point : WeighPoint) (s : State) : Result :=
  match s.runningOn point with
  | none => .next s
  | some r =>
    match r.run with
    | none => .next s
    | some e =>
      match e.nextSamples with
      | some chans => s.event (fun s => s.grossSample r e chans)
      | none => .next s

/-- How a request ends when its settle timer runs out (R128, R141). -/
def EngineRun.timeoutOutcome (e : EngineRun) : WeighOutcome :=
  match e.samples.head? with
  | some g => if g.saturated then .saturated else .unstable
  | none => .unstable

/-- SETTLE_TIMEOUT: the settle timer of an engine's request runs out (R128). -/
def execSettleTimeout (engine : Fin 4) (s : State) : Result :=
  match s.engineRequest (engine.val + 1) with
  | none => .next s
  | some r =>
    match r.run with
    | none => .next s
    | some e => s.event (fun s => (s.endRequests (fun x => x.arrival == r.arrival) e.timeoutOutcome).allocate)

/-- The switch closes: every ZERO and SPAN in the queue ends SWITCH_CLOSED (R145). -/
def State.closeSwitch (s : State) : State :=
  let s := { s with switchClosed := true }
  (s.endRequests (fun r => r.purpose == .zero || r.purpose == .span) .switchClosed).allocate

/-- SWITCH_CLOSES: the calibration switch is taken as closing (R145). -/
def execSwitchCloses (s : State) : Result := s.event State.closeSwitch

/-- SWITCH_OPENS: the calibration switch is taken as opening (R145). -/
def execSwitchOpens (s : State) : Result := .next { s with switchClosed := false }

end Sys2Proof.Machine
end

