-- ==== Sys2Proof/Machine/Wire.lean ====
section
/-! DEFINITION. The octets of the serial lines: numbers, the CRC-16, frames, and the receiver that finds them (R177, R185). -/

namespace Sys2Proof.Machine

/-! ### Numbers (R185) -/

/-- The `k` octets of a number, most significant first. -/
def octetsOf : Nat → Nat → List Octet
  | 0, _ => []
  | k + 1, n => BitVec.ofNat 8 (n / 256 ^ k) :: octetsOf k n

/-- The number of some octets, most significant first. -/
def natOf (l : List Octet) : Nat := l.foldl (fun a o => a * 256 + o.toNat) 0

/-- The `k` octets of a signed number in two's complement. -/
def octetsInt (k : Nat) (v : Int) : List Octet := octetsOf k (v % (256 ^ k : Nat)).toNat

/-- A number of `k` octets read in two's complement. -/
def intOf (k n : Nat) : Int := if 2 * n < 256 ^ k then n else (n : Int) - (256 ^ k : Nat)

/-! ### The check (R177) -/

/-- The CRC register moved on by one bit: generator x^16 + x^12 + x^5 + 1, not reflected. -/
def crcBit (r : BitVec 16) : BitVec 16 := if r.msb then (r <<< 1) ^^^ 0x1021#16 else r <<< 1

/-- The CRC register after one octet, most significant bit first. -/
def crcOctet (r : BitVec 16) (o : Octet) : BitVec 16 := Nat.repeat crcBit 8 (r ^^^ (o.zeroExtend 16 <<< 8))

/-- The CRC-16 of some octets: initial value FFFF, no final inversion. -/
def crc16 (l : List Octet) : BitVec 16 := l.foldl crcOctet 0xFFFF#16

/-! ### Frames (R177) -/

/-- The start mark. -/
def startMark : Octet := 0xA5

/-- A frame: sequence, type and body. -/
structure Frame where
  seq : Nat
  type : Nat
  body : List Octet
deriving DecidableEq, Repr, Inhabited

/-- Length, sequence, type and body of a frame: what its check covers. -/
def Frame.covered (f : Frame) : List Octet :=
  octetsOf 2 (f.body.length + 2) ++ (octetsOf 1 f.seq ++ (octetsOf 1 f.type ++ f.body))

/-- The octets of a frame on the line. -/
def Frame.octets (f : Frame) : List Octet := startMark :: (f.covered ++ octetsOf 2 (crc16 f.covered).toNat)

/-- Whether a length is that of a frame. -/
def lengthOk (n : Nat) : Bool := decide (2 ≤ n ∧ n ≤ 1026)

/-- The sequence, type and body that the covered octets of a frame give. -/
def frameParts : List Octet → Option Frame
  | _ :: _ :: seq :: type :: body => some { seq := seq.toNat, type := type.toNat, body := body }
  | _ => none

/-- A complete frame read from its octets; none where its check fails. -/
def frameOf (l : List Octet) : Option Frame :=
  let covered := (l.drop 1).take (l.length - 3)
  if l.head? = some startMark ∧ octetsOf 2 (crc16 covered).toNat = l.drop (l.length - 2) then frameParts covered else none

/-- The length a receiver has read, once both its octets are there. -/
def heldLength : List Octet → Option Nat
  | _ :: hi :: lo :: _ => some (natOf [hi, lo])
  | _ => none

/-- What a receiver holds once the start mark of a false length has been discarded: it looks for the next start mark, which
may be one of the two length octets. -/
def rescanLength (length : Nat) : List Octet :=
  let hi := BitVec.ofNat 8 (length / 256)
  let lo := BitVec.ofNat 8 length
  if hi = startMark then [hi, lo] else if lo = startMark then [lo] else []

/-- One octet into a receiver that holds the octets of a frame so far: what it then holds, and the complete frame where this
octet completes one. -/
def receiveOctet (held : List Octet) (o : Octet) : List Octet × Option (List Octet) :=
  match held with
  | [] => (if o = startMark then [o] else [], none)
  | _ =>
    let l := held ++ [o]
    match heldLength l with
    | none => (l, none)
    | some n =>
      if !lengthOk n then (rescanLength n, none)
      else if l.length = n + 5 then ([], some l)
      else (l, none)

/-- A run of octets without a gap into a receiver: what it holds at the end, and the frames completed. -/
def receiveAll (held : List Octet) : List Octet → List Octet × List (List Octet)
  | [] => (held, [])
  | o :: rest =>
    let (held', done) := receiveOctet held o
    let (last, more) := receiveAll held' rest
    (last, done.toList ++ more)

end Sys2Proof.Machine
end

