-- ==== Sys2Proof/Machine/YardFrames.lean ====
section
/-! DEFINITION. Frames that reach no block: requests that cannot be read, repeated requests, dropped yard link frames, and the
receiver's length and gap checks (R177, R178). -/

namespace Sys2Proof.Machine

/-- A request of unknown type, or with a body that does not agree with its type, is answered BAD_REQUEST (R178, R186). -/
def execBadRequest (seq type : Nat) (body : List Octet) (s : State) : Result :=
  s.reply (.badRequest seq type body) (fun _ => Answer.refuse .badRequest)

/-- A request equal to the kept one is not taken again: the kept response is sent again (R178). With no kept request there is
nothing to repeat. -/
def execRepeatedRequest (s : State) : Result :=
  match s.port.kept with
  | some k => .next { s with port := { s.port with partialFrame := [], out := some k.response } }
  | none => .next s

/-- A yard link frame dropped, for its check or for a full receive buffer, gets no response and is counted (R177, R178). -/
def execYardFrameDropped (_cause : YardDrop) (s : State) : Result :=
  .next { s with port := { s.port with dropped := bumpCount s.port.dropped, partialFrame := [], out := none } }

/-- The state with the octets received so far on one receiver replaced. DEDUCED, notes/assumptions/37.md. -/
def State.setPartial (s : State) (link : LinkId) (l : List Octet) : State :=
  match link with
  | .yard => { s with port := { s.port with partialFrame := l } }
  | .crane k => s.updLink (k + 1) (fun x => { x with partialFrame := l })

/-- A gap of more than 5 ms between two octets of one frame discards the frame so far (R177). -/
def execFrameGapTimeout (link : LinkId) (s : State) : Result := .next (s.setPartial link [])

/-- A length read by a receiver: outside 2 to 1,026 it is no frame, and the receiver discards the start mark and looks for the
next one; inside, the receiver keeps what it has read (R177). -/
def execLengthNotAFrame (link : LinkId) (length : Nat) (s : State) : Result :=
  if lengthOk length then
    .next (s.setPartial link [startMark, BitVec.ofNat 8 (length / 256), BitVec.ofNat 8 length])
  else .next (s.setPartial link (rescanLength length))

end Sys2Proof.Machine
end

