-- ==== Sys2Proof/Machine/ZoneRequests.lean ====
section
/-! DEFINITION. The requests on the Zone Arbiter: SHUT, OPEN, ZONES (chapter 4). -/

namespace Sys2Proof.Machine

/-- The zones of a table as ZONES returns them (R82). -/
def ZoneTable.views (t : ZoneTable) : List ZoneView :=
  t.zones.zipIdx.map (fun zi =>
    { num := zi.2 + 1, start := zi.1.start,
      stop := ((t.zones[zi.2 + 1]?).map Zone.start).getD t.length, zone := zi.1 })

/-- The zones of the table as ZONES returns them; empty before any zone section (R82). -/
def State.zoneViews (s : State) : List ZoneView :=
  match s.arbiter.table with
  | some t => t.views
  | none => []

/-- The entries of the request list in policy order, each with its stop (R75, R82). -/
def State.entryViews (s : State) : List (ZoneEntry × Option Stop) :=
  (s.arbiter.ordered s.arbiter.requests).map (fun e => (e, s.entryStop e))

/-- The state with one zone record changed (R65). -/
def State.updZone (s : State) (z : Nat) (f : Zone → Zone) : State :=
  { s with arbiter := { s.arbiter with
    table := s.arbiter.table.map (fun (t : ZoneTable) => { t with zones := modifyNth t.zones z f }) } }

/-- The state of a zone after SHUT (R66). -/
def Zone.shutting (z : Zone) : Zone :=
  match z.state with
  | .open => { z with state := if z.owner.isSome then .shutting else .shut }
  | _ => z

/-- The record of one zone as SHUT and OPEN return it (R66, R67). -/
def State.zoneAnswer (s : State) (z : Nat) : Answer :=
  match s.zoneViews.find? (fun v => v.num == z) with
  | some v => Answer.ok (.zoneRecord v)
  | none => Answer.refuse .unknown

/-- SHUT: a zone that no crane owns becomes SHUT, an owned one SHUTTING (R66). -/
def execShut (seq : Nat) (zone : Nat) (s : State) : Result :=
  s.serve (.shutZone seq zone) (fun s =>
    refusedIn .zone (s.zoneRefusal zone) s (
      let s' := s.updZone zone Zone.shutting
      (s', s'.zoneAnswer zone)))

/-- A zone returns to OPEN; an examination follows where its state changes (R67, R74). -/
def State.reopen (s : State) (z : Nat) : State :=
  let changed : Bool := match s.arbiter.table.bind (fun t => t.zone? z) with
    | some rec => rec.state != .open
    | none => false
  let s := s.updZone z (fun rec => { rec with state := .open })
  if changed then s.wantExam else s

/-- OPEN: a zone becomes OPEN with its owner unchanged (R67). -/
def execOpen (seq : Nat) (zone : Nat) (s : State) : Result :=
  s.serve (.openZone seq zone) (fun s =>
    refusedIn .zone (s.zoneRefusal zone) s (s.effectWith (fun s => s.reopen zone) (fun s => s.zoneAnswer zone)))

/-- The answer of ZONES for one zone or for all (R82). DEDUCED, the length absent and the last crane granted before any zone
section, notes/assumptions/84.md. -/
def State.zonesAnswer (s : State) : Option Nat → Answer
  | none => Answer.ok (.zoneTable (s.arbiter.table.map ZoneTable.length) s.arbiter.policy s.settings.autoYield
      s.arbiter.lastGranted s.zoneViews s.entryViews)
  | some z =>
    match s.zoneRefusal z with
    | some st => refuseField st .zone
    | none => match s.zoneViews.find? (fun v => v.num == z) with
      | some v => Answer.ok (.zone v (s.entryViews.filter (fun e => inRun e.1.run z)))
      | none => Answer.refuse .unknown

/-- ZONES: the zone table and the request list, or one zone with the entries that hold it (R82). -/
def execZones (seq : Nat) (zone : Option Nat) (s : State) : Result :=
  s.reply (.zones seq zone) (fun s => s.zonesAnswer zone)

end Sys2Proof.Machine
end

