-- ==== Sys2Proof/Machine/Dispatch.lean ====
section
/-! DEFINITION. One arm for each command of spec/opcode_table.json, each a direct call of its meaning. -/

namespace Sys2Proof.Machine

def exec (i : Instr) (s : State) : Host.Outcome State Fault Refusal :=
  match i with
  | .powerOnReset => Sys2Proof.Machine.execPowerOnReset s
  | .enter seq id saddle weight diameter width cls bearing hold => Sys2Proof.Machine.execEnter seq id saddle weight diameter width cls bearing hold s
  | .query seq id => Sys2Proof.Machine.execQuery seq id s
  | .amend seq id fields => Sys2Proof.Machine.execAmend seq id fields s
  | .retire seq id => Sys2Proof.Machine.execRetire seq id s
  | .place seq id pos weight diameter width cls bearing hold => Sys2Proof.Machine.execPlace seq id pos weight diameter width cls bearing hold s
  | .find seq id count => Sys2Proof.Machine.execFind seq id count s
  | .probe seq what => Sys2Proof.Machine.execProbe seq what s
  | .block seq what => Sys2Proof.Machine.execBlock seq what s
  | .unblock seq what => Sys2Proof.Machine.execUnblock seq what s
  | .crane seq num => Sys2Proof.Machine.execCrane seq num s
  | .shutZone seq zone => Sys2Proof.Machine.execShut seq zone s
  | .openZone seq zone => Sys2Proof.Machine.execOpen seq zone s
  | .zones seq zone => Sys2Proof.Machine.execZones seq zone s
  | .move seq coil target crane urgent => Sys2Proof.Machine.execMove seq coil target crane urgent s
  | .park seq crane x => Sys2Proof.Machine.execPark seq crane x s
  | .resume seq id => Sys2Proof.Machine.execResume seq id s
  | .accept seq id => Sys2Proof.Machine.execAccept seq id s
  | .retarget seq id target => Sys2Proof.Machine.execRetarget seq id target s
  | .abort seq id => Sys2Proof.Machine.execAbort seq id s
  | .moves seq what => Sys2Proof.Machine.execMoves seq what s
  | .discard seq id => Sys2Proof.Machine.execDiscard seq id s
  | .clearChannel seq channel => Sys2Proof.Machine.execClearChannel seq channel s
  | .clearCrane seq crane => Sys2Proof.Machine.execClearCrane seq crane s
  | .peaks seq point => Sys2Proof.Machine.execPeaks seq point s
  | .weigh seq point => Sys2Proof.Machine.execWeigh seq point s
  | .weighResult seq point => Sys2Proof.Machine.execWeighResult seq point s
  | .channels seq => Sys2Proof.Machine.execChannels seq s
  | .calibration seq channel => Sys2Proof.Machine.execCalibration seq channel s
  | .zero seq point => Sys2Proof.Machine.execZero seq point s
  | .span seq point mass => Sys2Proof.Machine.execSpan seq point mass s
  | .unhold seq bay => Sys2Proof.Machine.execUnhold seq bay s
  | .dismiss seq bay => Sys2Proof.Machine.execDismiss seq bay s
  | .bay seq num => Sys2Proof.Machine.execBay seq num s
  | .announce seq bay truck plan => Sys2Proof.Machine.execAnnounce seq bay truck plan s
  | .replan seq bay plan => Sys2Proof.Machine.execReplan seq bay plan s
  | .modeSetup seq => Sys2Proof.Machine.execModeSetup seq s
  | .modeRun seq => Sys2Proof.Machine.execModeRun seq s
  | .layout seq body => Sys2Proof.Machine.execLayout seq body s
  | .settings seq items => Sys2Proof.Machine.execSettings seq items s
  | .restart seq => Sys2Proof.Machine.execRestart seq s
  | .notices seq => Sys2Proof.Machine.execNotices seq s
  | .ack seq flags => Sys2Proof.Machine.execAck seq flags s
  | .enable seq flags => Sys2Proof.Machine.execEnable seq flags s
  | .badRequest seq type body => Sys2Proof.Machine.execBadRequest seq type body s
  | .repeatedRequest => Sys2Proof.Machine.execRepeatedRequest s
  | .yardFrameDropped cause => Sys2Proof.Machine.execYardFrameDropped cause s
  | .frameGapTimeout link => Sys2Proof.Machine.execFrameGapTimeout link s
  | .position link x y => Sys2Proof.Machine.execPosition link x y s
  | .gripped link move x y => Sys2Proof.Machine.execGripped link move x y s
  | .lifted link move x y => Sys2Proof.Machine.execLifted link move x y s
  | .setDown link move x y => Sys2Proof.Machine.execSet link move x y s
  | .opened link move x y => Sys2Proof.Machine.execOpened link move x y s
  | .craneFrameDropped link cause => Sys2Proof.Machine.execCraneFrameDropped link cause s
  | .linkSend link => Sys2Proof.Machine.execLinkSend link s
  | .freshnessExpiry link => Sys2Proof.Machine.execFreshnessExpiry link s
  | .noClock channel => Sys2Proof.Machine.execNoClock channel s
  | .stuck channel => Sys2Proof.Machine.execStuck channel s
  | .fastUpdate channel => Sys2Proof.Machine.execFastUpdate channel s
  | .slack link => Sys2Proof.Machine.execSlack link s
  | .grossSample point => Sys2Proof.Machine.execGrossSample point s
  | .settleTimeout engine => Sys2Proof.Machine.execSettleTimeout engine s
  | .arrivalTimer bay => Sys2Proof.Machine.execArrivalTimer bay s
  | .departure bay => Sys2Proof.Machine.execDeparture bay s
  | .chockLine bay high => Sys2Proof.Machine.execChockLine bay high s
  | .clearLine bay high => Sys2Proof.Machine.execClearLine bay high s
  | .switchCloses => Sys2Proof.Machine.execSwitchCloses s
  | .switchOpens => Sys2Proof.Machine.execSwitchOpens s
  | .risingClockEdge channel bit => Sys2Proof.Machine.execRisingClockEdge channel bit s
  | .lengthNotAFrame link length => Sys2Proof.Machine.execLengthNotAFrame link length s

end Sys2Proof.Machine
end

