-- ==== Sys2Proof/Machine/Write.lean ====
section
/-! DEFINITION. The octets of requests and crane messages as their senders lay them out (R185, R186): what `Read.lean` reads. -/

namespace Sys2Proof.Machine

/-- A mark of yes or no. -/
def writeMark (b : Bool) : List Octet := if b then [1] else [0]

/-- An optional field of `size` octets, which are 0 when it is absent (R185). -/
def writeOpt {α : Type} (size : Nat) (f : α → List Octet) : Option α → List Octet
  | some a => 1 :: f a
  | none => 0 :: List.replicate size 0

/-- A list: a count octet followed by its items (R186). -/
def writeList {α : Type} (f : α → List Octet) (l : List α) : List Octet := octetsOf 1 l.length ++ l.flatMap f

/-- An identifier: 11 octets (R185). -/
def writeIdent (id : Ident) : List Octet :=
  octetsOf 1 id.length ++ (id.map (fun c => BitVec.ofNat 8 c.toNat) ++ List.replicate (10 - id.length) 0)

/-- A place of a kind with two numbers: 9 octets (R185). -/
def writeKind (kind a b : Nat) : List Octet := octetsOf 1 kind ++ (octetsOf 4 a ++ octetsOf 4 b)

/-- A place a request names (R185). -/
def writePlace : PlaceRef → List Octet
  | .entry n => writeKind 1 n 0
  | .floor r g => writeKind 2 r g
  | .nest r u => writeKind 3 r u
  | .cradle b c => writeKind 5 b c

/-- A target, AUTO being kind 8 (R186). -/
def writeTarget : MoveTarget → List Octet
  | .named p => writePlace p
  | .auto => writeKind 8 0 0

/-- What PROBE names. -/
def writeProbe : ProbeTarget → List Octet
  | .floor r g => 1 :: writePlace (.floor r g)
  | .nest r u => 1 :: writePlace (.nest r u)
  | .entry n => 1 :: writePlace (.entry n)
  | .row r => 2 :: octetsOf 1 r

/-- What BLOCK and UNBLOCK name. -/
def writeBlock : BlockTarget → List Octet
  | .place p => 1 :: writePlace p
  | .row r => 2 :: octetsOf 1 r

/-- What MOVES names. -/
def writeMoves : MovesTarget → List Octet
  | .all => [0]
  | .one id => 1 :: octetsOf 1 id
  | .crane n => 2 :: octetsOf 1 n

/-- A weigh point: kind and number. -/
def writePoint : WeighPoint → List Octet
  | .hoist n => 1 :: octetsOf 1 n
  | .front b => 2 :: octetsOf 1 b
  | .rear b => 3 :: octetsOf 1 b

/-- A set of notice flags: six octets, from the lowest bit of the first (R186). -/
def writeFlags (f : BitVec 44) : List Octet := (octetsOf 6 f.toNat).reverse

/-- The descriptive fields of ENTER and PLACE. -/
def writeCoilFields (w d b c : Nat) (bearing hold : Option Bool) : List Octet :=
  octetsOf 4 w ++ (octetsOf 2 d ++ (octetsOf 2 b ++ (octetsOf 1 c ++ (writeOpt 1 writeMark bearing ++ writeOpt 1 writeMark hold))))

/-- The fields of AMEND. -/
def writeAmend (f : AmendFields) : List Octet :=
  writeOpt 4 (octetsOf 4) f.recorded ++ (writeOpt 2 (octetsOf 2) f.diameter ++ (writeOpt 2 (octetsOf 2) f.width ++
    (writeOpt 1 (octetsOf 1) f.cls ++ (writeOpt 1 writeMark f.bearing ++ writeOpt 1 writeMark f.hold))))

/-- A cradle of a truck. -/
def writeCradle (d : CradleDef) : List Octet := octetsOf 2 d.dist ++ octetsOf 2 d.maxWidth

/-- A truck record. -/
def writeTruck (t : Truck) : List Octet :=
  writeIdent t.id ++ (octetsOf 2 t.bogieDist ++ (writeList writeCradle t.cradles ++ (octetsOf 2 t.wheelbase ++
    (octetsOf 2 t.fifthWheel ++ (octetsOf 2 t.steerShare ++ (octetsOf 4 t.steerLimit ++ (octetsOf 4 t.driveLimit ++
      (octetsOf 4 t.bogieLimit ++ octetsOf 4 t.grossLimit))))))))

/-- A plan entry. -/
def writePlanItem (e : PlanItem) : List Octet := writeIdent e.coil ++ octetsOf 1 e.cradle

/-- A grant policy. -/
def writePolicy : Policy → List Octet
  | .age => [1]
  | .rotate => [2]

/-- A zone kind with its bay number. -/
def writeZoneKind : ZoneKind → List Octet
  | .store => [1, 0]
  | .entry => [2, 0]
  | .park => [3, 0]
  | .bay b => 4 :: octetsOf 1 b

/-- A zone of the zone section. -/
def writeZone (z : ZoneDef) : List Octet := octetsOf 1 z.num ++ (octetsOf 4 z.start ++ writeZoneKind z.kind)

/-- The zone section. -/
def writeZoneSection (z : ZoneSection) : List Octet :=
  octetsOf 4 z.length ++ (octetsOf 1 z.count ++ (writeOpt 1 writePolicy z.policy ++ writeList writeZone z.zones))

/-- A crane of the crane section. -/
def writeCrane (c : CraneDef) : List Octet := octetsOf 1 c.num ++ (octetsOf 2 c.halfLength ++ octetsOf 4 c.tare)

/-- The crane section. -/
def writeCraneSection (c : CraneSection) : List Octet := octetsOf 1 c.count ++ writeList writeCrane c.cranes

/-- A row of the store section. -/
def writeRow (r : RowDef) : List Octet :=
  octetsOf 1 r.num ++ (octetsOf 4 r.x ++ (octetsOf 4 r.y0 ++ (octetsOf 2 r.pitch ++ (octetsOf 1 r.count ++
    (writeMark r.nests ++ (octetsOf 1 r.classes.toNat ++ (octetsOf 2 r.maxWidth ++ (octetsOf 2 r.maxDiameter ++
      (octetsOf 4 r.floorLimit ++ (octetsOf 1 r.bearing ++ (octetsOf 2 r.mismatch ++ octetsOf 2 r.penalty)))))))))))

/-- A saddle of the store section. -/
def writeSaddle (d : SaddleDef) : List Octet := octetsOf 1 d.num ++ (octetsOf 4 d.x ++ octetsOf 4 d.y)

/-- The store section. -/
def writeStoreSection (d : StoreSection) : List Octet := writeList writeRow d.rows ++ writeList writeSaddle d.saddles

/-- A bay of the bay section. -/
def writeBay (d : BayDef) : List Octet :=
  octetsOf 1 d.num ++ (octetsOf 1 d.zone ++ (octetsOf 4 d.kingpin ++ (octetsInt 1 d.dir ++ octetsOf 4 d.y)))

/-- A channel of the channel section. -/
def writeChannel (d : ChanDef) : List Octet :=
  octetsOf 1 d.num ++ (octetsOf 1 d.cfg.order ++ (octetsOf 2 d.cfg.decim ++ (octetsOf 2 d.cfg.integ ++ (octetsOf 1 d.cfg.shift ++
    (octetsOf 1 d.cfg.fastOrder ++ octetsOf 1 d.cfg.fastDecim)))))

/-- The body of LAYOUT. -/
def writeLayout (b : LayoutBody) : List Octet :=
  writeOpt 0 writeZoneSection b.zone ++ (writeOpt 0 writeCraneSection b.crane ++ (writeOpt 0 writeStoreSection b.store ++
    (writeOpt 0 (writeList writeBay) b.bay ++ writeOpt 0 (writeList writeChannel) b.channel)))

/-- A setting code, with the weigh point of a division (R186). -/
def writeKey : SettingKey → List Octet
  | .freshness => [1]
  | .tolerance => [2]
  | .autoYield => [3]
  | .stuckRun => [4]
  | .overload => [5]
  | .slack => [6]
  | .arrivalThreshold => [7]
  | .emptyThreshold => [8]
  | .slackTime => [9]
  | .settleTimeout => [10]
  | .division wp => 11 :: writePoint wp
  | .window => [12]
  | .band => [13]
  | .allowance => [14]
  | .ratio => [15]
  | .arrivalTime => [16]
  | .departureTime => [17]
  | .bayAllowance => [18]
  | .bayRatio => [19]

/-- A setting with its value. -/
def writeSetting (i : SettingItem) : List Octet := writeKey i.key ++ octetsOf 4 i.value

/-- A request laid out as a frame: its sequence, type and body (R186). None for a command that is no request. -/
def requestFrame : Instr → Option Frame
  | .enter q id saddle w d b c be ho =>
    some { seq := q, type := 1, body := writeIdent id ++ (octetsOf 1 saddle ++ writeCoilFields w d b c be ho) }
  | .query q id => some { seq := q, type := 2, body := writeIdent id }
  | .amend q id f => some { seq := q, type := 3, body := writeIdent id ++ writeAmend f }
  | .retire q id => some { seq := q, type := 4, body := writeIdent id }
  | .place q id pos w d b c be ho =>
    some { seq := q, type := 5, body := writeIdent id ++ (writePlace pos.ref ++ writeCoilFields w d b c be ho) }
  | .find q id n => some { seq := q, type := 6, body := writeIdent id ++ writeOpt 1 (octetsOf 1) n }
  | .probe q t => some { seq := q, type := 7, body := writeProbe t }
  | .block q t => some { seq := q, type := 8, body := writeBlock t }
  | .unblock q t => some { seq := q, type := 9, body := writeBlock t }
  | .crane q n => some { seq := q, type := 10, body := writeOpt 1 (octetsOf 1) n }
  | .shutZone q z => some { seq := q, type := 11, body := octetsOf 1 z }
  | .openZone q z => some { seq := q, type := 12, body := octetsOf 1 z }
  | .zones q z => some { seq := q, type := 13, body := writeOpt 1 (octetsOf 1) z }
  | .move q id t n u =>
    some { seq := q, type := 14, body := writeIdent id ++ (writeTarget t ++ (octetsOf 1 n ++ writeOpt 1 writeMark u)) }
  | .park q n x => some { seq := q, type := 15, body := octetsOf 1 n ++ octetsOf 4 x }
  | .resume q id => some { seq := q, type := 16, body := octetsOf 1 id }
  | .accept q id => some { seq := q, type := 17, body := octetsOf 1 id }
  | .retarget q id t => some { seq := q, type := 18, body := octetsOf 1 id ++ writeOpt 9 writeTarget t }
  | .abort q id => some { seq := q, type := 19, body := octetsOf 1 id }
  | .moves q t => some { seq := q, type := 20, body := writeMoves t }
  | .discard q id => some { seq := q, type := 21, body := writeOpt 1 (octetsOf 1) id }
  | .clearChannel q ch => some { seq := q, type := 22, body := 1 :: octetsOf 1 ch }
  | .clearCrane q n => some { seq := q, type := 22, body := 2 :: octetsOf 1 n }
  | .peaks q wp => some { seq := q, type := 23, body := writeOpt 2 writePoint wp }
  | .weigh q wp => some { seq := q, type := 24, body := writePoint wp }
  | .weighResult q wp => some { seq := q, type := 25, body := writePoint wp }
  | .channels q => some { seq := q, type := 26, body := [] }
  | .calibration q ch => some { seq := q, type := 27, body := writeOpt 1 (octetsOf 1) ch }
  | .zero q wp => some { seq := q, type := 28, body := writePoint wp }
  | .span q wp m => some { seq := q, type := 29, body := writePoint wp ++ octetsOf 4 m }
  | .unhold q b => some { seq := q, type := 30, body := octetsOf 1 b }
  | .dismiss q b => some { seq := q, type := 31, body := octetsOf 1 b }
  | .bay q b => some { seq := q, type := 32, body := writeOpt 1 (octetsOf 1) b }
  | .announce q b t plan =>
    some { seq := q, type := 33, body := octetsOf 1 b ++ (writeTruck t ++ writeList writePlanItem plan) }
  | .replan q b plan => some { seq := q, type := 34, body := octetsOf 1 b ++ writeList writePlanItem plan }
  | .modeSetup q => some { seq := q, type := 35, body := [1] }
  | .modeRun q => some { seq := q, type := 35, body := [2] }
  | .layout q b => some { seq := q, type := 36, body := writeLayout b }
  | .settings q items => some { seq := q, type := 37, body := writeList writeSetting items }
  | .restart q => some { seq := q, type := 38, body := [] }
  | .notices q => some { seq := q, type := 39, body := [] }
  | .ack q f => some { seq := q, type := 40, body := writeFlags f }
  | .enable q f => some { seq := q, type := 41, body := writeFlags f }
  | _ => none

/-! ### Crane messages (R56, R186) -/

/-- The two edges of a window, 0 where it is empty (R56). -/
def writeEdges : Window → List Octet
  | some (west, east) => octetsInt 4 west ++ octetsInt 4 east
  | none => octetsInt 4 0 ++ octetsInt 4 0

/-- A position. -/
def writePos (p : Pos) : List Octet := octetsInt 4 p.1 ++ octetsInt 4 p.2

/-- The code of a move kind (R186). -/
def writeMoveKind : MoveKind → List Octet
  | .carry => [1]
  | .travel => [2]

/-- A message of the unit to a crane as a frame with its sequence number (R56, R177, R186). -/
def messageFrame (seq : Nat) : Message → Frame
  | .order id kind source target w =>
    { seq := seq, type := 64, body := octetsOf 1 id ++ (writeMoveKind kind ++ (writePos source ++ (writePos target ++ writeEdges w))) }
  | .window w => { seq := seq, type := 65, body := writeMark w.isNone ++ writeEdges w }
  | .cancel id => { seq := seq, type := 66, body := octetsOf 1 id }

/-- A message of a crane as a frame (R186). -/
def eventFrame (seq : Nat) : Instr → Option Frame
  | .position _ x y => some { seq := seq, type := 80, body := writePos (x, y) }
  | .gripped _ id x y => some { seq := seq, type := 81, body := octetsOf 1 id ++ 1 :: writePos (x, y) }
  | .lifted _ id x y => some { seq := seq, type := 81, body := octetsOf 1 id ++ 2 :: writePos (x, y) }
  | .setDown _ id x y => some { seq := seq, type := 81, body := octetsOf 1 id ++ 3 :: writePos (x, y) }
  | .opened _ id x y => some { seq := seq, type := 81, body := octetsOf 1 id ++ 4 :: writePos (x, y) }
  | _ => none

end Sys2Proof.Machine
end

