-- ==== Sys2Proof/Machine/Records.lean ====
section
/-! DEFINITION. The octets of responses: statuses, named items, and the records the host reads (R178, R185). The coil and move
records have the layouts of R185; every other record takes its conventions, its fields in the order its owning rule lists them.
DESIGN CHOICE where the spec leaves a layout open, see notes/assumptions/31.md. -/

namespace Sys2Proof.Machine

/-- The code of a state or reason: its place in the order the manual lists them, from 1 (R185). -/
def codeIn {α : Type} [DecidableEq α] (l : List α) (a : α) : List Octet := octetsOf 1 (l.idxOf a + 1)

/-- The code of an optional state or reason: 0 for absent (R185). -/
def codeOpt {α : Type} [DecidableEq α] (l : List α) : Option α → List Octet
  | some a => codeIn l a
  | none => [0]

/-- Marks from the lowest bit of one octet. -/
def writeMarks (l : List Bool) : List Octet := octetsOf 1 ((l.zipIdx.map (fun bi => if bi.1 then 2 ^ bi.2 else 0)).sum)

/-! ### Statuses and items (R178) -/

/-- The status codes in the order of their numbers, from 0. -/
def allStatuses : List Status :=
  [.ok, .badRequest, .wrongMode, .badIdent, .unknown, .outOfRange, .invalid, .duplicate, .tableFull, .busy, .allocated, .unfit,
    .axleLimit, .wrongPlace, .placeBusy, .trapped, .noPlace, .noPosition, .wrongCrane, .onHook, .urgentBusy, .queueFull,
    .bayState, .onHold, .coilHeld, .planOrder, .wrongState, .overLimit, .switchClosed]

/-- The number of a status (R178). -/
def statusCode (st : Status) : Nat := allStatuses.idxOf st

/-- The decimal digits of a number. -/
def decimal (n : Nat) : List Char := Nat.toDigits 10 n

/-- The name of a field in a named item. -/
def fieldText : FieldName → String
  | .saddle => "SADDLE" | .weight => "WEIGHT" | .diameter => "DIAMETER" | .width => "WIDTH" | .cls => "CLASS" | .count => "COUNT"
  | .crane => "CRANE" | .bay => "BAY" | .cradle => "CRADLE" | .zone => "ZONE" | .x => "X" | .y => "Y" | .y0 => "Y0"
  | .pitch => "PITCH" | .mask => "MASK" | .maxWidth => "MAX WIDTH" | .maxDiameter => "MAX DIAMETER" | .floorLimit => "FLOOR LIMIT"
  | .bearing => "BEARING" | .mismatch => "MISMATCH" | .penalty => "PENALTY" | .length => "LENGTH" | .start => "START"
  | .kind => "KIND" | .halfLength => "HALF LENGTH" | .tare => "TARE" | .kingpin => "KINGPIN" | .direction => "DIRECTION"
  | .order => "ORDER" | .decimation => "DECIMATION" | .integration => "INTEGRATION" | .shift => "SHIFT"
  | .fastOrder => "FAST ORDER" | .fastDecimation => "FAST DECIMATION" | .scaling => "SCALE" | .bogieDistance => "BOGIE DISTANCE"
  | .cradles => "CRADLES" | .distance => "DISTANCE" | .wheelbase => "WHEELBASE" | .fifthWheel => "FIFTH WHEEL"
  | .steerShare => "STEER SHARE" | .steerLimit => "STEER LIMIT" | .driveLimit => "DRIVE LIMIT" | .bogieLimit => "BOGIE LIMIT"
  | .grossLimit => "GROSS LIMIT" | .plan => "PLAN" | .channel => "CHANNEL" | .mass => "MASS" | .target => "TARGET"
  | .number => "NUMBER"

/-- The name of a numbered thing in a named item. -/
def kindText : ItemKind → String
  | .zone => "ZONE" | .crane => "CRANE" | .row => "ROW" | .saddle => "SADDLE" | .bay => "BAY" | .channel => "CHANNEL"
  | .cradle => "CRADLE" | .entry => "ENTRY"

/-- The name of a section. -/
def sectionText : SectionName → String
  | .zone => "ZONE SECTION" | .crane => "CRANE SECTION" | .store => "STORE SECTION" | .bay => "BAY SECTION"
  | .channel => "CHANNEL SECTION"

/-- The name of a weigh point. -/
def pointText : WeighPoint → List Char
  | .hoist n => "HOIST ".toList ++ decimal n
  | .front b => "FRONT ".toList ++ decimal b
  | .rear b => "REAR ".toList ++ decimal b

/-- The name of a setting. -/
def settingText : SettingKey → List Char
  | .freshness => "FRESHNESS".toList | .tolerance => "TOLERANCE".toList | .autoYield => "AUTO YIELD".toList
  | .stuckRun => "STUCK RUN".toList | .overload => "OVERLOAD".toList | .slack => "SLACK".toList
  | .arrivalThreshold => "ARRIVAL THRESHOLD".toList | .emptyThreshold => "EMPTY THRESHOLD".toList
  | .slackTime => "SLACK TIME".toList | .settleTimeout => "SETTLE TIMEOUT".toList
  | .division wp => "DIVISION ".toList ++ pointText wp
  | .window => "WINDOW".toList | .band => "BAND".toList | .allowance => "ALLOWANCE".toList | .ratio => "RATIO".toList
  | .arrivalTime => "ARRIVAL TIME".toList | .departureTime => "DEPARTURE TIME".toList
  | .bayAllowance => "BAY ALLOWANCE".toList | .bayRatio => "BAY RATIO".toList

/-- The text of a named item, such as ROW 12 PITCH or COIL K4471A (R178). -/
def itemText : Item → List Char
  | .field f => (fieldText f).toList
  | .thing k n f => (kindText k).toList ++ ' ' :: decimal n ++ (match f with | some f => ' ' :: (fieldText f).toList | none => [])
  | .part name => (sectionText name).toList
  | .coil id => "COIL ".toList ++ id
  | .floorPos r g => "FLOOR ".toList ++ decimal r ++ ' ' :: decimal g
  | .setting k => settingText k

/-- A named item: up to 32 characters preceded by a length octet (R178). -/
def writeItem (i : Item) : List Octet :=
  let t := (itemText i).take 32
  octetsOf 1 t.length ++ t.map (fun c => BitVec.ofNat 8 c.toNat)

/-! ### Parts of records (R185) -/

/-- A location or a source. -/
def writeLoc : Loc → List Octet
  | .place p => writePlace p
  | .hook n => writeKind 4 n 0
  | .astray x y => octetsOf 1 6 ++ (octetsInt 4 x ++ octetsInt 4 y)

/-- A target of a move; an X is kind 7. -/
def writeMoveTarget : Option Target → List Octet
  | some (.place p) => writePlace p
  | some (.runway x) => octetsOf 1 7 ++ (octetsInt 4 x ++ octetsOf 4 0)
  | none => writeKind 0 0 0

/-- An optional source. -/
def writeSource : Option Loc → List Octet
  | some l => writeLoc l
  | none => writeKind 0 0 0

/-- An optional identifier of 11 octets, length 0 where absent. -/
def writeIdentOpt : Option Ident → List Octet
  | some id => writeIdent id
  | none => List.replicate 11 0

/-- The coil record as QUERY returns it: 56 octets (R13, R185). -/
def writeCoil (v : CoilView) : List Octet :=
  let c := v.coil
  writeIdent c.id ++ octetsOf 4 c.recorded ++ writeOpt 4 (fun m => octetsOf 4 (Measured.value m)) c.measured ++
  octetsOf 1 ((c.measured.map Measured.crane).getD 0) ++
  octetsOf 2 ((c.measured.map Measured.countA).getD 0) ++ octetsOf 2 ((c.measured.map Measured.countB).getD 0) ++
  octetsOf 2 ((v.present.map Prod.fst).getD 0) ++ octetsOf 2 ((v.present.map Prod.snd).getD 0) ++
  codeIn [.unverified, .verified, .mismatch] c.verification ++ octetsOf 2 c.diameter ++ octetsOf 2 c.width ++ octetsOf 1 c.cls ++
  writeMarks [c.bearing, c.hold] ++ writeOpt 2 (fun a => octetsOf 1 (Allocation.bay a) ++ octetsOf 1 a.index) c.alloc ++
  writeLoc c.loc ++ writeOpt 1 (octetsOf 1) c.move ++ octetsOf 4 v.reference ++ octetsOf 2 v.count

/-- The states of a move in the order of R84. -/
def moveStates : List MoveState :=
  [.queued, .pending, .zones, .toSource, .gripped, .weighing, .carrying, .placed, .travelling, .held, .ended]

/-- The hold reasons in the order of R84. -/
def holdReasons : List HoldReason :=
  [.mismatch, .weighFault, .unsettled, .destUnfit, .axleLimit, .strayGrip, .crossing, .truckGone]

/-- The move record as MOVES returns it: 50 octets (R110, R185). -/
def writeMove (v : MoveView) : List Octet :=
  let m := v.move
  octetsOf 1 m.id ++ codeIn [.carry, .travel] m.kind ++ codeIn [.host, .yield] m.origin ++ octetsOf 1 m.crane ++
  writeMarks [m.urgent, m.autoTarget, m.pendingMark, m.offTarget, m.misfit] ++ codeIn moveStates m.state ++
  codeOpt holdReasons m.hold ++ codeOpt [.done, .returned, .aborted, .astray, .dropped] m.outcome ++ writeIdentOpt m.coil ++
  writeSource m.source ++ writeMoveTarget m.target ++ writeOpt 4 (octetsInt 4) m.liftX ++ writeOpt 4 (octetsInt 4) m.liftPeak ++
  octetsOf 1 v.queuePlace ++
  (match v.check with | .none => [0] | .waiting => [1] | .running => [2]) ++ octetsOf 1 v.checkRetry

/-- A place state with its coil and its move, each an optional field (R25, R185). -/
def writePlaceState (st : PlaceState) : List Octet :=
  octetsOf 1 (match st with | .free => 1 | .occupied _ => 2 | .incoming _ _ => 3 | .outgoing _ _ => 4 | .vacated _ => 5) ++
  writeOpt 11 writeIdent st.coil? ++ writeOpt 1 (octetsOf 1) st.move?

/-- A place as PROBE returns it (R40); the state of each support goes with the coil and the move it names. DEDUCED,
notes/assumptions/65.md. -/
def writePlaceView (v : PlaceView) : List Octet :=
  writePlace v.place ++ writePos v.pos ++ writePlaceState v.state ++ writeMark v.blocked ++
  writeOpt 8 (fun (p : Nat × Nat) => octetsOf 4 p.1 ++ octetsOf 4 p.2) v.load ++
  writeOpt 30 (fun (p : PlaceState × PlaceState) => writePlaceState p.1 ++ writePlaceState p.2) v.supports

/-- The zone states in the order of R65. -/
def zoneStates : List ZoneState := [.open, .shutting, .shut]

/-- A zone as ZONES returns it (R82), its number first. DEDUCED, notes/assumptions/62.md. -/
def writeZoneView (v : ZoneView) : List Octet :=
  octetsOf 1 v.num ++ octetsOf 4 v.start ++ octetsOf 4 v.stop ++ writeZoneKind v.zone.kind ++ codeIn zoneStates v.zone.state ++
  writeOpt 1 (octetsOf 1) v.zone.owner

/-- A run: west zone and east zone. -/
def writeRun (r : Run) : List Octet := octetsOf 1 r.1 ++ octetsOf 1 r.2

/-- A stop: its zone, its reason and its crane, the zone and the crane each an optional field (R82, R185). -/
def writeStopParts (zone : Option Nat) (reason : Nat) (crane : Option Nat) : List Octet :=
  writeOpt 1 (octetsOf 1) zone ++ octetsOf 1 reason ++ writeOpt 1 (octetsOf 1) crane

/-- A stop, its reasons numbered in the order of R82. -/
def writeStop : Stop → List Octet
  | .owned z c => writeStopParts (some z) 1 (some c)
  | .shut z => writeStopParts (some z) 2 none
  | .shutting z => writeStopParts (some z) 3 none
  | .bayUnsecured z => writeStopParts (some z) 4 none
  | .order z => writeStopParts (some z) 5 none
  | .notTracking => writeStopParts none 6 none
  | .noRun => writeStopParts none 7 none

/-- An entry of the request list with its stop (R69, R82). -/
def writeEntry (p : ZoneEntry × Option Stop) : List Octet :=
  octetsOf 1 p.1.crane ++ octetsOf 1 p.1.move ++ writeOpt 2 writeRun p.1.run ++ writeMark p.1.urgent ++ writeMark p.1.carries ++
  octetsOf 2 p.1.arrival ++ writeOpt 5 writeStop p.2

/-- A running timer with the time left, or stopped. -/
def writeTimer (t : Timer) : List Octet := writeOpt 2 (octetsOf 2) t

/-- A crane as CRANE returns it (R46, R60). DEDUCED: the freshness timer once, notes/assumptions/71.md; the inhibit lines as
marks, notes/assumptions/72.md; an empty travel window by its empty mark, notes/assumptions/75.md; last X and last Y as one
optional field, notes/assumptions/76.md. -/
def writeCraneView (v : CraneView) : List Octet :=
  let c := v.crane
  octetsOf 1 c.num ++ octetsOf 2 c.halfLength ++ octetsOf 4 c.tare ++ codeIn [.unknown, .tracking, .lost] c.tracking ++
  writeOpt 8 writePos c.lastPos ++ codeIn [.opened, .closed] c.tongs ++ codeIn [.free, .loaded, .resting] c.load ++
  writeOpt 2 writeRun c.run ++ writeMark c.window.isNone ++ writeEdges c.window ++
  writeMarks [c.travel.setup, c.travel.unknown, c.travel.lost, c.travel.breach, c.travel.bay] ++
  writeMarks [c.raise.overload, c.raise.fault, c.raise.strayGrip] ++ writeOpt 4 (octetsInt 4) c.liftPeak ++ writeTimer c.fresh ++
  writeMark v.travelLine ++ writeMark v.raiseLine ++
  writeOpt 2 (fun (h : Nat × MoveState) => octetsOf 1 h.1 ++ codeIn moveStates h.2) v.head ++ octetsOf 2 v.dropped

/-- A weigh point's peak and trough (R123), the weigh point first. DEDUCED, notes/assumptions/62.md. -/
def writePeak (v : PeakView) : List Octet :=
  writePoint v.point ++ octetsInt 4 v.peak ++ octetsInt 4 v.trough ++ writeOpt 4 (octetsInt 4) v.sum

/-- Zero, span and count of a channel (R144). -/
def writeCalib (c : Calib) : List Octet := octetsInt 4 c.zero ++ octetsOf 4 c.span ++ octetsOf 2 c.count

/-- The purposes in the order of R124. -/
def writePurpose (p : Purpose) : List Octet := codeIn [.check, .tare, .place, .read, .zero, .span] p

/-- What a STORED record carries: the new zeros, the new span, and the new counts, each empty or absent where it carries none
(R148, R149). DESIGN CHOICE, notes/assumptions/31.md. -/
def writeStored : Option StoredCalib → List Octet
  | none => writeList (octetsInt 4) [] ++ writeOpt 4 (octetsOf 4) none ++ writeList (octetsOf 2) []
  | some (.zeros zs counts) => writeList (octetsInt 4) zs ++ writeOpt 4 (octetsOf 4) none ++ writeList (octetsOf 2) counts
  | some (.span g counts) => writeList (octetsInt 4) [] ++ writeOpt 4 (octetsOf 4) (some g) ++ writeList (octetsOf 2) counts

/-- What a result record holds of the latest sample, one optional field: the weight of each channel, gross, net and display value
(R128, R185). -/
def writeSample (r : ResultRecord) : List Octet :=
  writeOpt (4 * r.point.channels.length + 13)
    (fun g => writeList (fun c => octetsInt 4 (ChanSample.weight c)) g.chans ++ octetsInt 4 (GrossSample.gross g) ++
      octetsInt 4 g.net ++ octetsInt 4 g.display) r.sample

/-- A result record (R128, R148, R149). -/
def writeResult (r : ResultRecord) : List Octet :=
  writePoint r.point ++ writePurpose r.purpose ++
  codeIn [.stable, .unstable, .saturated, .fault, .cancelled, .switchClosed] r.outcome ++
  writeSample r ++ writeList (octetsOf 2) r.counts ++ octetsOf 1 r.retry ++
  codeOpt [.stored, .wrongState, .outOfRange, .notStored] r.verdict ++ writeStored r.stored

/-- The six settings of a channel (R112). -/
def writeChanSettings (c : ChanSettings) : List Octet :=
  octetsOf 1 c.order ++ octetsOf 2 c.decim ++ octetsOf 2 c.integ ++ octetsOf 1 c.shift ++ octetsOf 1 c.fastOrder ++
  octetsOf 1 c.fastDecim

/-- A channel as CHANNELS returns it (R113, R131), its number first. DEDUCED, notes/assumptions/62.md. -/
def writeChannelView (v : ChannelView) : List Octet :=
  octetsOf 1 v.num ++
  (match v.state with
  | .unconfigured => [1, 0]
  | .running => [2, 0]
  | .fault .stuck => [3, 1]
  | .fault .noClock => [3, 2]) ++
  writeOpt 8 writeChanSettings v.cfg ++ octetsOf 1 v.scale ++ octetsOf 1 v.stuckRun ++ octetsOf 1 v.runLength ++
  writeOpt 4 (octetsInt 4) v.fastWeight

/-- A level (R122); a hoist weigh point, which keeps none, stands at NONE. DEDUCED, notes/assumptions/63.md. -/
def writeLevel (l : Level) : List Octet :=
  match l with
  | .high => [1] | .mid => [2] | .low => [3] | .none => [4] | .fault => [5]

/-- A requester: a move, a bay, or the host (R124). -/
def writeRequester : Requester → List Octet
  | .move id => 1 :: octetsOf 1 id
  | .bay b => 2 :: octetsOf 1 b
  | .host => [3, 0]

/-- A weigh request as CHANNELS returns it, its test mass an optional field (R124, R131, R185). -/
def writeRequestView (v : RequestView) : List Octet :=
  writePoint v.point ++ writePurpose v.purpose ++ writeList writeRequester v.requesters ++ writeOpt 4 (octetsOf 4) v.mass ++
  writeMark (v.purpose == .check) ++ (if v.engine.isSome then [2] else [1]) ++ writeOpt 1 (octetsOf 1) v.engine ++
  writeMark v.preempted ++ octetsOf 1 v.retry ++ octetsOf 2 v.arrival ++ writeTimer v.settle

/-- A plan entry with its status, the move it names being an optional field (R167, R185). -/
def writePlanEntry (e : PlanEntry) : List Octet :=
  writeIdent e.coil ++ octetsOf 1 e.cradle ++
  (match e.status with | .waiting => [1] | .moving _ => [2] | .placed => [3]) ++
  writeOpt 1 (octetsOf 1) (match e.status with | .moving m => some m | _ => none)

/-- A prediction (R171). -/
def writePrediction (p : Prediction) : List Octet := octetsInt 4 p.steer ++ octetsInt 4 p.drive ++ octetsInt 4 p.bogie

/-- The result of a plan check: passed or failed, the failing prefix as an optional field, and its figure (R173, R185). -/
def writePlanResult : PlanResult → List Octet
  | .passed => 1 :: (writeOpt 1 (octetsOf 1) none ++ [0])
  | .failed k f => 2 :: (writeOpt 1 (octetsOf 1) (some k) ++ codeIn [.steer, .drive, .bogie, .gross] f)

/-- The phases in the order of R151. -/
def phases : List Phase := [.none, .expecting, .unannounced, .taring, .ready, .loading, .loaded, .dismissed]

/-- An outstanding request of a platform: its purpose and its retry count (R151). DEDUCED, notes/assumptions/64.md. -/
def writeOutstanding (o : Outstanding) : List Octet := writePurpose o.purpose ++ octetsOf 1 o.retry

/-- An optional weight. -/
def writeWeight (w : Option Int) : List Octet := writeOpt 4 (octetsInt 4) w

/-- A bay as BAY returns it (R150, R151, R163). DEDUCED: an absent truck, notes/assumptions/57.md; the lines as marks,
notes/assumptions/72.md. -/
def writeBayView (v : BayView) : List Octet :=
  let x := v.bay
  writeBay x.cfg ++ codeIn [.empty, .arriving, .present, .departing] x.presence ++ writeMark x.frozen ++ writeTimer x.arrival ++
  writeTimer x.departure ++ codeIn phases x.phase ++
  codeOpt [.planLimit, .tareLimit, .deviation, .unsettled, .platformFault] x.hold ++
  codeIn [.open, .chocked, .secured] x.security ++ writeMark x.stale ++ codeIn [.off, .stop, .depart] x.lamp ++
  writeWeight x.frontCandidate ++ writeWeight x.rearCandidate ++ writeWeight x.frontTare ++ writeWeight x.rearTare ++
  writeMark x.tareRetry ++ writeOpt 2 writeOutstanding x.frontRequest ++ writeOpt 2 writeOutstanding x.rearRequest ++
  writeLevel v.frontLevel ++ writeLevel v.rearLevel ++ writeMark v.lines.chock ++ writeMark v.lines.clear ++
  writeOpt 0 writeTruck x.truck ++
  writeList (fun p => writePlaceState (Place.state p) ++ writeMark p.blocked) x.cradles ++ writeList writePlanEntry x.plan ++
  writeOpt 12 writePrediction x.predicted ++ writeWeight x.frontNet ++ writeWeight x.rearNet ++
  writeOpt 4 writePlanResult x.planCheck

/-- A setting as SETTINGS returns it (R181). -/
def writeSettingView (v : SettingView) : List Octet := writeKey v.key ++ octetsOf 4 v.value ++ writeMark v.clamped

/-- DEPARTURE data of a bay, an optional field: the count of records removed, and the mark (R17, R162, R184, R185). -/
def writeDepartures (l : List (Option DepartureData)) : List Octet :=
  l.flatMap (fun d => writeOpt 3 (fun d => octetsOf 2 (DepartureData.retired d) ++ writeMark d.unauthorised) d)

/-! ### The data of a response (R178) -/

/-- The data of a response. DESIGN CHOICE, notes/assumptions/31.md. DEDUCED: an absent result record or section,
notes/assumptions/57.md; the count octet before one named record, notes/assumptions/61.md; the number that begins a record,
notes/assumptions/62.md; the engines of CHANNELS, notes/assumptions/63.md; the calibration
switch as a mark, notes/assumptions/72.md. -/
def writeData : Data → List Octet
  | .none => []
  | .coil v => writeCoil v
  | .count n => octetsOf 2 n
  | .entries n => octetsOf 1 n
  | .found l total trapped =>
    writeList (fun (p : PlaceRef × Nat) => writePlace p.1 ++ octetsOf 4 p.2) l ++ octetsOf 2 total ++ writeMark trapped
  | .place v => writePlaceView v
  | .row l cfg z => writeList writePlaceView l ++ writeRow cfg ++ codeOpt zoneStates z
  | .cranes l => writeList writeCraneView l
  | .zoneRecord v => writeZoneView v
  | .zone v l => writeZoneView v ++ writeList writeEntry l
  | .zoneTable len policy auto last zones entries =>
    writeOpt 4 (octetsOf 4) len ++ writePolicy policy ++ writeMark auto ++ octetsOf 1 last ++ writeList writeZoneView zones ++
    writeList writeEntry entries
  | .accepted id target n => octetsOf 1 id ++ (target.elim [] writePlace) ++ octetsOf 1 n
  | .target p => writePlace p
  | .moves l total => writeList writeMove l ++ total.elim [] (octetsOf 2)
  | .overload sum h => writeOpt 4 (octetsInt 4) sum ++ octetsOf 4 h
  | .peaks l => writeList writePeak l
  | .queuePlace n => octetsOf 1 n
  | .slot r unread => (match r with | some r => 1 :: writeResult r | none => [0]) ++ writeMark unread
  | .channels chans points slack queue engines =>
    writeList writeChannelView chans ++
    writeList (fun (p : WeighPoint × Option Int × Level) => writePoint p.1 ++ writeWeight p.2.1 ++ writeLevel p.2.2) points ++
    writeList (fun (p : Nat × Timer) => octetsOf 1 p.1 ++ writeTimer p.2) slack ++ writeList writeRequestView queue ++
    writeList (fun e => writeOpt 2 (octetsOf 2) e) engines
  | .calibration l closed =>
    writeList (fun (p : Nat × Calib) => octetsOf 1 p.1 ++ writeCalib p.2) l ++ writeMark closed
  | .phase p => codeIn phases p
  | .planResult r => writeOpt 4 writePlanResult r
  | .bays l => writeList writeBayView l
  | .layout b => writeLayout b
  | .settings l => writeList writeSettingView l
  | .notices flags mask deps yard cranes =>
    writeFlags flags ++ writeFlags mask ++ writeDepartures deps ++ octetsOf 2 yard ++ cranes.flatMap (octetsOf 2)
  | .flags flags mask => writeFlags flags ++ writeFlags mask

/-- The body of a response: status, attention mark, the item for OUT_OF_RANGE and INVALID or where the refusal names one, and
the data (R178). -/
def writeResponse (r : Response) : List Octet :=
  octetsOf 1 (statusCode r.answer.status) ++ writeMark r.attention ++ (r.answer.item.elim [] writeItem) ++ writeData r.answer.data

/-- A response on the line: the sequence of its request, and its type with the top bit set (R177).
DEDUCED, notes/assumptions/33.md. -/
def responseFrame (f : Frame) (r : Response) : Frame := { seq := f.seq, type := f.type % 128 + 128, body := writeResponse r }

end Sys2Proof.Machine
end

