-- ==== Sys2Proof/Machine/Read.lean ====
section
/-! DEFINITION. What a frame spells: the requests of the yard link and the messages of the cranes, read from their bodies by the
conventions of R185 and R186. A body that does not agree with them spells no request (R178), or is dropped (R55). -/

namespace Sys2Proof.Machine

/-! ### Fields (R185, R186) -/

/-- A number of `k` octets. -/
def readNat (k : Nat) (l : List Octet) : Option (Nat × List Octet) := if k ≤ l.length then some (natOf (l.take k), l.drop k) else none

/-- A signed number of `k` octets. -/
def readInt (k : Nat) (l : List Octet) : Option (Int × List Octet) := (readNat k l).map (fun p => (intOf k p.1, p.2))

/-- A mark of yes or no. -/
def readMark (l : List Octet) : Option (Bool × List Octet) := do
  let (n, l) ← readNat 1 l
  if n = 0 then some (false, l) else if n = 1 then some (true, l) else none

/-- An optional field of `size` octets, which are 0 when it is absent. -/
def readOpt {α : Type} (size : Nat) (f : List Octet → Option (α × List Octet)) (l : List Octet) : Option ((Option α) × List Octet) := do
  let (present, l) ← readMark l
  if present then do
    let (a, l) ← f l
    some (some a, l)
  else do
    let (z, l) ← readNat size l
    if z = 0 then some (none, l) else none

/-- `n` items in a row. -/
def readMany {α : Type} (f : List Octet → Option (α × List Octet)) : Nat → List Octet → Option ((List α) × List Octet)
  | 0, l => some ([], l)
  | n + 1, l => do
    let (a, l) ← f l
    let (rest, l) ← readMany f n l
    some (a :: rest, l)

/-- A list: a count octet followed by its items. -/
def readList {α : Type} (f : List Octet → Option (α × List Octet)) (l : List Octet) : Option ((List α) × List Octet) := do
  let (n, l) ← readNat 1 l
  readMany f n l

/-- An identifier: a length octet, 1 to 10, its characters, and unused octets of 0. DEDUCED, for another length octet,
notes/assumptions/49.md. -/
def readIdent (l : List Octet) : Option (Ident × List Octet) := do
  let (n, l) ← readNat 1 l
  if 1 ≤ n ∧ n ≤ 10 ∧ 10 ≤ l.length ∧ (l.take 10).drop n = List.replicate (10 - n) 0 then
    some ((l.take n).map (fun o => Char.ofNat o.toNat), l.drop 10)
  else none

/-- A place, or AUTO (kind 8), where a request may name one: kind and two numbers. -/
def readTarget (l : List Octet) : Option (MoveTarget × List Octet) := do
  let (kind, l) ← readNat 1 l
  let (a, l) ← readNat 4 l
  let (b, l) ← readNat 4 l
  match kind with
  | 1 => if b = 0 then some (.named (.entry a), l) else none
  | 2 => some (.named (.floor a b), l)
  | 3 => some (.named (.nest a b), l)
  | 5 => some (.named (.cradle a b), l)
  | 8 => if a = 0 ∧ b = 0 then some (.auto, l) else none
  | _ => none

/-- A place. -/
def readPlace (l : List Octet) : Option (PlaceRef × List Octet) := do
  let (t, l) ← readTarget l
  match t with
  | .named p => some (p, l)
  | .auto => none

/-- A floor or nest position. DEDUCED, for a place of another kind, notes/assumptions/50.md. -/
def readStorePos (l : List Octet) : Option (StorePos × List Octet) := do
  let (p, l) ← readPlace l
  match p with
  | .floor r g => some (.floor r g, l)
  | .nest r u => some (.nest r u, l)
  | _ => none

/-- What PROBE names: a place of the store (1) or a row (2). DEDUCED, for a cradle, notes/assumptions/50.md. -/
def readProbe (l : List Octet) : Option (ProbeTarget × List Octet) := do
  let (kind, l) ← readNat 1 l
  match kind with
  | 1 => do
    let (p, l) ← readPlace l
    match p with
    | .floor r g => some (.floor r g, l)
    | .nest r u => some (.nest r u, l)
    | .entry n => some (.entry n, l)
    | .cradle _ _ => none
  | 2 => do
    let (r, l) ← readNat 1 l
    some (.row r, l)
  | _ => none

/-- What BLOCK and UNBLOCK name: a place (1) or a row (2). -/
def readBlock (l : List Octet) : Option (BlockTarget × List Octet) := do
  let (kind, l) ← readNat 1 l
  match kind with
  | 1 => do
    let (p, l) ← readPlace l
    some (.place p, l)
  | 2 => do
    let (r, l) ← readNat 1 l
    some (.row r, l)
  | _ => none

/-- What MOVES names: all (0), a move (1) or a crane (2). -/
def readMoves (l : List Octet) : Option (MovesTarget × List Octet) := do
  let (kind, l) ← readNat 1 l
  match kind with
  | 0 => some (.all, l)
  | 1 => do
    let (id, l) ← readNat 1 l
    some (.one id, l)
  | 2 => do
    let (n, l) ← readNat 1 l
    some (.crane n, l)
  | _ => none

/-- A weigh point: kind and number. -/
def readPoint (l : List Octet) : Option (WeighPoint × List Octet) := do
  let (kind, l) ← readNat 1 l
  let (n, l) ← readNat 1 l
  match kind with
  | 1 => some (.hoist n, l)
  | 2 => some (.front n, l)
  | 3 => some (.rear n, l)
  | _ => none

/-- A set of notice flags: six octets, from the lowest bit of the first. DEDUCED, a bit above the 44th makes the body not agree
with R186, notes/assumptions/86.md. -/
def readFlags (l : List Octet) : Option ((BitVec 44) × List Octet) := do
  let (n, l') ← readNat 6 l
  let v := natOf (l.take 6).reverse
  if v < 2 ^ 44 ∧ n < 2 ^ 48 then some (BitVec.ofNat 44 v, l') else none

/-! ### Records of requests -/

/-- The descriptive fields of ENTER and PLACE after identifier and place: weight, diameter, width, class, bearing, hold. -/
def readCoilFields (l : List Octet) : Option ((Nat × Nat × Nat × Nat × Option Bool × Option Bool) × List Octet) := do
  let (w, l) ← readNat 4 l
  let (d, l) ← readNat 2 l
  let (b, l) ← readNat 2 l
  let (c, l) ← readNat 1 l
  let (bearing, l) ← readOpt 1 readMark l
  let (hold, l) ← readOpt 1 readMark l
  some ((w, d, b, c, bearing, hold), l)

/-- The fields of AMEND, each optional. -/
def readAmend (l : List Octet) : Option (AmendFields × List Octet) := do
  let (recorded, l) ← readOpt 4 (readNat 4) l
  let (diameter, l) ← readOpt 2 (readNat 2) l
  let (width, l) ← readOpt 2 (readNat 2) l
  let (cls, l) ← readOpt 1 (readNat 1) l
  let (bearing, l) ← readOpt 1 readMark l
  let (hold, l) ← readOpt 1 readMark l
  some ({ recorded := recorded, diameter := diameter, width := width, cls := cls, bearing := bearing, hold := hold }, l)

/-- A cradle of a truck. -/
def readCradle (l : List Octet) : Option (CradleDef × List Octet) := do
  let (dist, l) ← readNat 2 l
  let (maxWidth, l) ← readNat 2 l
  some ({ dist := dist, maxWidth := maxWidth }, l)

/-- A truck record. -/
def readTruck (l : List Octet) : Option (Truck × List Octet) := do
  let (id, l) ← readIdent l
  let (bogieDist, l) ← readNat 2 l
  let (cradles, l) ← readList readCradle l
  let (wheelbase, l) ← readNat 2 l
  let (fifthWheel, l) ← readNat 2 l
  let (steerShare, l) ← readNat 2 l
  let (steerLimit, l) ← readNat 4 l
  let (driveLimit, l) ← readNat 4 l
  let (bogieLimit, l) ← readNat 4 l
  let (grossLimit, l) ← readNat 4 l
  some ({ id := id, bogieDist := bogieDist, cradles := cradles, wheelbase := wheelbase, fifthWheel := fifthWheel,
          steerShare := steerShare, steerLimit := steerLimit, driveLimit := driveLimit, bogieLimit := bogieLimit,
          grossLimit := grossLimit }, l)

/-- A plan entry. -/
def readPlanItem (l : List Octet) : Option (PlanItem × List Octet) := do
  let (coil, l) ← readIdent l
  let (cradle, l) ← readNat 1 l
  some ({ coil := coil, cradle := cradle }, l)

/-- A grant policy: 1 AGE, 2 ROTATE. -/
def readPolicy (l : List Octet) : Option (Policy × List Octet) := do
  let (n, l) ← readNat 1 l
  if n = 1 then some (.age, l) else if n = 2 then some (.rotate, l) else none

/-- A zone kind with its bay number, which is 0 for other kinds. -/
def readZoneKind (l : List Octet) : Option (ZoneKind × List Octet) := do
  let (kind, l) ← readNat 1 l
  let (b, l) ← readNat 1 l
  match kind with
  | 1 => if b = 0 then some (.store, l) else none
  | 2 => if b = 0 then some (.entry, l) else none
  | 3 => if b = 0 then some (.park, l) else none
  | 4 => some (.bay b, l)
  | _ => none

/-- A zone of the zone section. -/
def readZone (l : List Octet) : Option (ZoneDef × List Octet) := do
  let (num, l) ← readNat 1 l
  let (start, l) ← readNat 4 l
  let (kind, l) ← readZoneKind l
  some ({ num := num, start := start, kind := kind }, l)

/-- The zone section. -/
def readZoneSection (l : List Octet) : Option (ZoneSection × List Octet) := do
  let (length, l) ← readNat 4 l
  let (count, l) ← readNat 1 l
  let (policy, l) ← readOpt 1 readPolicy l
  let (zones, l) ← readList readZone l
  some ({ length := length, count := count, policy := policy, zones := zones }, l)

/-- A crane of the crane section. -/
def readCrane (l : List Octet) : Option (CraneDef × List Octet) := do
  let (num, l) ← readNat 1 l
  let (halfLength, l) ← readNat 2 l
  let (tare, l) ← readNat 4 l
  some ({ num := num, halfLength := halfLength, tare := tare }, l)

/-- The crane section. -/
def readCraneSection (l : List Octet) : Option (CraneSection × List Octet) := do
  let (count, l) ← readNat 1 l
  let (cranes, l) ← readList readCrane l
  some ({ count := count, cranes := cranes }, l)

/-- A row of the store section. -/
def readRow (l : List Octet) : Option (RowDef × List Octet) := do
  let (num, l) ← readNat 1 l
  let (x, l) ← readNat 4 l
  let (y0, l) ← readNat 4 l
  let (pitch, l) ← readNat 2 l
  let (count, l) ← readNat 1 l
  let (nests, l) ← readMark l
  let (classes, l) ← readNat 1 l
  let (maxWidth, l) ← readNat 2 l
  let (maxDiameter, l) ← readNat 2 l
  let (floorLimit, l) ← readNat 4 l
  let (bearing, l) ← readNat 1 l
  let (mismatch, l) ← readNat 2 l
  let (penalty, l) ← readNat 2 l
  some ({ num := num, x := x, y0 := y0, pitch := pitch, count := count, nests := nests, classes := BitVec.ofNat 8 classes,
          maxWidth := maxWidth, maxDiameter := maxDiameter, floorLimit := floorLimit, bearing := bearing,
          mismatch := mismatch, penalty := penalty }, l)

/-- A saddle of the store section. -/
def readSaddle (l : List Octet) : Option (SaddleDef × List Octet) := do
  let (num, l) ← readNat 1 l
  let (x, l) ← readNat 4 l
  let (y, l) ← readNat 4 l
  some ({ num := num, x := x, y := y }, l)

/-- The store section. -/
def readStoreSection (l : List Octet) : Option (StoreSection × List Octet) := do
  let (rows, l) ← readList readRow l
  let (saddles, l) ← readList readSaddle l
  some ({ rows := rows, saddles := saddles }, l)

/-- A bay of the bay section. -/
def readBay (l : List Octet) : Option (BayDef × List Octet) := do
  let (num, l) ← readNat 1 l
  let (zone, l) ← readNat 1 l
  let (kingpin, l) ← readNat 4 l
  let (dir, l) ← readInt 1 l
  let (y, l) ← readNat 4 l
  some ({ num := num, zone := zone, kingpin := kingpin, dir := dir, y := y }, l)

/-- A channel of the channel section. -/
def readChannel (l : List Octet) : Option (ChanDef × List Octet) := do
  let (num, l) ← readNat 1 l
  let (order, l) ← readNat 1 l
  let (decim, l) ← readNat 2 l
  let (integ, l) ← readNat 2 l
  let (shift, l) ← readNat 1 l
  let (fastOrder, l) ← readNat 1 l
  let (fastDecim, l) ← readNat 1 l
  some ({ num := num, cfg := { order := order, decim := decim, integ := integ, shift := shift, fastOrder := fastOrder,
                               fastDecim := fastDecim } }, l)

/-- The body of LAYOUT: five optional sections; one that is absent takes its presence octet alone. -/
def readLayout (l : List Octet) : Option (LayoutBody × List Octet) := do
  let (zone, l) ← readOpt 0 readZoneSection l
  let (crane, l) ← readOpt 0 readCraneSection l
  let (store, l) ← readOpt 0 readStoreSection l
  let (bay, l) ← readOpt 0 (readList readBay) l
  let (channel, l) ← readOpt 0 (readList readChannel) l
  some ({ zone := zone, crane := crane, store := store, bay := bay, channel := channel }, l)

/-- A setting code, with the weigh point that follows the code of a division. -/
def readKey (l : List Octet) : Option (SettingKey × List Octet) := do
  let (n, l) ← readNat 1 l
  match n with
  | 1 => some (.freshness, l)
  | 2 => some (.tolerance, l)
  | 3 => some (.autoYield, l)
  | 4 => some (.stuckRun, l)
  | 5 => some (.overload, l)
  | 6 => some (.slack, l)
  | 7 => some (.arrivalThreshold, l)
  | 8 => some (.emptyThreshold, l)
  | 9 => some (.slackTime, l)
  | 10 => some (.settleTimeout, l)
  | 11 => (readPoint l).map (fun p => (SettingKey.division p.1, p.2))
  | 12 => some (.window, l)
  | 13 => some (.band, l)
  | 14 => some (.allowance, l)
  | 15 => some (.ratio, l)
  | 16 => some (.arrivalTime, l)
  | 17 => some (.departureTime, l)
  | 18 => some (.bayAllowance, l)
  | 19 => some (.bayRatio, l)
  | _ => none

/-- A setting with its value. -/
def readSetting (l : List Octet) : Option (SettingItem × List Octet) := do
  let (key, l) ← readKey l
  let (value, l) ← readNat 4 l
  some ({ key := key, value := value }, l)

/-! ### Requests (R186) -/

/-- A request whose body is one field. -/
def one {α : Type} (f : List Octet → Option (α × List Octet)) (k : α → Instr) (l : List Octet) : Option (Instr × List Octet) := (f l).map (fun p => (k p.1, p.2))

/-- A request whose body is two fields. -/
def two {α β : Type} (f : List Octet → Option (α × List Octet)) (g : List Octet → Option (β × List Octet)) (k : α → β → Instr)
    (l : List Octet) : Option (Instr × List Octet) := do
  let (a, l) ← f l
  let (b, l) ← g l
  some (k a b, l)

/-- ENTER. -/
def readEnter (q : Nat) (l : List Octet) : Option (Instr × List Octet) := do
  let (id, l) ← readIdent l
  let (saddle, l) ← readNat 1 l
  let ((w, d, b, c, bearing, hold), l) ← readCoilFields l
  some (.enter q id saddle w d b c bearing hold, l)

/-- PLACE. -/
def readPlaceRequest (q : Nat) (l : List Octet) : Option (Instr × List Octet) := do
  let (id, l) ← readIdent l
  let (pos, l) ← readStorePos l
  let ((w, d, b, c, bearing, hold), l) ← readCoilFields l
  some (.place q id pos w d b c bearing hold, l)

/-- MOVE. -/
def readMove (q : Nat) (l : List Octet) : Option (Instr × List Octet) := do
  let (coil, l) ← readIdent l
  let (target, l) ← readTarget l
  let (crane, l) ← readNat 1 l
  let (urgent, l) ← readOpt 1 readMark l
  some (.move q coil target crane urgent, l)

/-- CLEAR of a channel (1) or a crane (2). -/
def readClear (q : Nat) (l : List Octet) : Option (Instr × List Octet) := do
  let (kind, l) ← readNat 1 l
  let (n, l) ← readNat 1 l
  match kind with
  | 1 => some (.clearChannel q n, l)
  | 2 => some (.clearCrane q n, l)
  | _ => none

/-- MODE: 1 SETUP, 2 RUN. -/
def readMode (q : Nat) (l : List Octet) : Option (Instr × List Octet) := do
  let (n, l) ← readNat 1 l
  match n with
  | 1 => some (.modeSetup q, l)
  | 2 => some (.modeRun q, l)
  | _ => none

/-- ANNOUNCE. -/
def readAnnounce (q : Nat) (l : List Octet) : Option (Instr × List Octet) := do
  let (b, l) ← readNat 1 l
  let (t, l) ← readTruck l
  let (plan, l) ← readList readPlanItem l
  some (.announce q b t plan, l)

/-- A request of a type, with its sequence number (R186). DEDUCED, notes/assumptions/32.md. -/
def readRequest (type q : Nat) (l : List Octet) : Option (Instr × List Octet) :=
  match type with
  | 1 => readEnter q l
  | 2 => one readIdent (.query q) l
  | 3 => two readIdent readAmend (.amend q) l
  | 4 => one readIdent (.retire q) l
  | 5 => readPlaceRequest q l
  | 6 => two readIdent (readOpt 1 (readNat 1)) (.find q) l
  | 7 => one readProbe (.probe q) l
  | 8 => one readBlock (.block q) l
  | 9 => one readBlock (.unblock q) l
  | 10 => one (readOpt 1 (readNat 1)) (.crane q) l
  | 11 => one (readNat 1) (.shutZone q) l
  | 12 => one (readNat 1) (.openZone q) l
  | 13 => one (readOpt 1 (readNat 1)) (.zones q) l
  | 14 => readMove q l
  | 15 => two (readNat 1) (readNat 4) (.park q) l
  | 16 => one (readNat 1) (.resume q) l
  | 17 => one (readNat 1) (.accept q) l
  | 18 => two (readNat 1) (readOpt 9 readTarget) (.retarget q) l
  | 19 => one (readNat 1) (.abort q) l
  | 20 => one readMoves (.moves q) l
  | 21 => one (readOpt 1 (readNat 1)) (.discard q) l
  | 22 => readClear q l
  | 23 => one (readOpt 2 readPoint) (.peaks q) l
  | 24 => one readPoint (.weigh q) l
  | 25 => one readPoint (.weighResult q) l
  | 26 => some (.channels q, l)
  | 27 => one (readOpt 1 (readNat 1)) (.calibration q) l
  | 28 => one readPoint (.zero q) l
  | 29 => two readPoint (readNat 4) (.span q) l
  | 30 => one (readNat 1) (.unhold q) l
  | 31 => one (readNat 1) (.dismiss q) l
  | 32 => one (readOpt 1 (readNat 1)) (.bay q) l
  | 33 => readAnnounce q l
  | 34 => two (readNat 1) (readList readPlanItem) (.replan q) l
  | 35 => readMode q l
  | 36 => one readLayout (.layout q) l
  | 37 => one (readList readSetting) (.settings q) l
  | 38 => some (.restart q, l)
  | 39 => some (.notices q, l)
  | 40 => one readFlags (.ack q) l
  | 41 => one readFlags (.enable q) l
  | _ => none

/-- What is read takes every octet of the body. -/
def whole {α : Type} (r : Option (α × List Octet)) : Option α :=
  match r with
  | some (a, []) => some a
  | _ => none

/-- The command a complete yard link frame gives: its request, BAD_REQUEST, or a dropped frame (R177, R178, R186). -/
def yardCommand (l : List Octet) : Instr :=
  match frameOf l with
  | none => .yardFrameDropped .checkFailed
  | some f => (whole (readRequest f.type f.seq f.body)).getD (.badRequest f.seq f.type f.body)

/-- A message of a crane: POSITION (80) or EVENT (81) with its stage (R186). -/
def readMessage (link : Fin 3) (type : Nat) (l : List Octet) : Option (Instr × List Octet) :=
  match type with
  | 80 => two (readInt 4) (readInt 4) (.position link) l
  | 81 => do
    let (id, l) ← readNat 1 l
    let (stage, l) ← readNat 1 l
    let (x, l) ← readInt 4 l
    let (y, l) ← readInt 4 l
    match stage with
    | 1 => some (.gripped link id x y, l)
    | 2 => some (.lifted link id x y, l)
    | 3 => some (.setDown link id x y, l)
    | 4 => some (.opened link id x y, l)
    | _ => none
  | _ => none

/-- The command a complete crane link frame gives: its message, or a dropped frame (R55, R177, R186). -/
def craneCommand (link : Fin 3) (l : List Octet) : Instr :=
  match frameOf l with
  | none => .craneFrameDropped link .checkFailed
  | some f => (whole (readMessage link f.type f.body)).getD (.craneFrameDropped link .unreadable)

end Sys2Proof.Machine
end

