-- ==== Sys2Proof/Safety.lean ====
section
/-! DEFINITION. The terms that claims about the unit use: a fresh request, the laws a safe run keeps, and what those laws read
of a state. -/

namespace Sys2Proof.Machine

/-! ### Requests -/

/-- A request that the port does not hold as the last one taken (R178). -/
def State.fresh (s : State) (i : Instr) : Prop := ∀ k, s.port.kept = some k → k.request ≠ i

/-- The state with the octets of a frame received so far consumed by the frame just completed (R177). -/
def State.taking (s : State) : State := { s with port := { s.port with partialFrame := [] } }

/-- Whether a command is a request of the yard link that the port answers and keeps (R178). -/
def isRequest (i : Instr) : Bool :=
  (requestFrame i).isSome || (match i with | .badRequest _ _ _ => true | _ => false)

/-- The answer of the response on the line. -/
def State.answered (s : State) : Option Answer := s.port.out.map (fun r => r.answer)

/-- A command refused with a status: the response carries it with the item it names, and nothing else changes (R2, R12, R178). -/
def Refused (i : Instr) (s : State) (st : Status) : Prop :=
  ∃ item, exec i s = .next (s.taking.respond i { status := st, item := item, data := .none })

/-- A command answered OK with data, after which the unit is in the state `t`, with the response on the line. -/
def Answers (i : Instr) (s t : State) (d : Data) : Prop := exec i s = .next (t.respond i (Answer.ok d))

/-- A command whose effect up to the end of its event is `u`, answered OK with data. -/
def Settles (i : Instr) (s u : State) (d : Data) : Prop := Answers i s u.settle d

/-- The state in which a request acts: its frame is taken, and its event has begun. -/
def State.acting (s : State) : State := s.taking.beginEvent

/-- The state in which a frame of a crane link acts: the frame is taken off the receiver, and its event has begun. -/
def State.hearing (s : State) (link : Fin 3) : State :=
  (s.updLink (link.val + 1) (fun l => { l with partialFrame := [] })).beginEvent

/-- A run that crane `n` may take at first tracking: each zone of it is defined, owned by no other crane, and lies east of every
zone owned by a lower-numbered crane and west of every zone owned by a higher-numbered one (R51). -/
def TrackableRun (t : ZoneTable) (n : Nat) (r : Run) : Prop :=
  ∀ z, r.1 ≤ z → z ≤ r.2 → ∃ rec, t.zone? z = some rec ∧ (rec.owner = none ∨ rec.owner = some n) ∧
    ∀ y other k, t.zone? y = some other → other.owner = some k → (k < n → y < z) ∧ (n < k → z < y)

/-! ### What the slot finder offers (R37, R38) -/

/-- The list the slot finder gives for a coil with X_ref `x`: exactly the FREE, unblocked places that the coil fits, in rows whose
zone is not SHUT, each with its cost, the cheapest first, and equal costs in the order of the table of rows, floors before nests
(R37, R38). -/
def State.Offers (s : State) (source : Option PlaceRef) (c : Coil) (x : Int) (all : List (PlaceRef × Nat)) : Prop :=
  all.Pairwise (fun a b => a.2 ≤ b.2) ∧
  (∀ k, ((all.filter (fun a => a.2 == k)).map Prod.fst).Sublist (s.store.rows.flatMap Row.places)) ∧
  ∀ p k, (p, k) ∈ all ↔ ∃ row ∈ s.store.rows, p ∈ row.places ∧
    (∃ t z rec, s.arbiter.table = some t ∧ t.zoneAt row.cfg.x = some z ∧ t.zone? z = some rec ∧ rec.state ≠ .shut) ∧
    (∃ q, s.findPlace p = some q ∧ q.state = .free ∧ q.blocked = false) ∧ s.fits source p c = true ∧
    k = ((row.cfg.x : Int) - x).natAbs / 100 + (match p with | .nest _ _ => row.cfg.penalty | _ => 0)

/-! ### Plans and axle limits (R170 to R172) -/

/-- The coil counts towards bay `b` at its cradle `k`: it lies there, or it hangs on a hook and its live move has that cradle as
its target (R171). -/
def State.CountsAt (s : State) (c : Coil) (b k : Nat) : Prop :=
  c.loc = .place (.cradle b k) ∨
    ∃ n id m, c.loc = .hook n ∧ c.move = some id ∧ s.findMove id = some m ∧ m.state ≠ .ended ∧
      m.target = some (.place (.cradle b k))

/-- The prediction of a tared bay with the given counted coils is above one of the truck's limits (R172). -/
def Bay.Exceeds (x : Bay) (l : List Counted) : Prop :=
  ∃ t f r, x.truck = some t ∧ x.frontTare = some f ∧ x.rearTare = some r ∧
    let p := predict t f r l
    (t.steerLimit : Int) < p.steer ∨ (t.driveLimit : Int) < p.drive ∨ (t.bogieLimit : Int) < p.bogie ∨
      (t.grossLimit : Int) < p.steer + p.drive + p.bogie

/-- The plan order lets a move carry the coil to cradle `k` of bay `b`: the first WAITING entry names both, no entry is MOVING, and
no live move from a cradle of the bay is short of its LIFTED (R170). -/
def State.MayLoad (s : State) (x : Bay) (b k : Nat) (coil : Ident) : Prop :=
  (∃ before e behind, x.plan = before ++ e :: behind ∧ (∀ j ∈ before, j.status ≠ .waiting) ∧ e.status = .waiting ∧
    e.coil = coil ∧ e.cradle = k) ∧
  (∀ e ∈ x.plan, ∀ id, e.status ≠ .moving id) ∧
  ∀ m ∈ s.moves.recs, m.state ≠ .ended → (∃ j, m.source = some (.place (.cradle b j))) → s.onHook m = true

/-- The plan order lets a move take the coil off a cradle of bay `b`: its entry is the last PLACED one, no entry is MOVING, and no
live move has its source at a cradle of the bay (R170). -/
def State.MayUnload (s : State) (x : Bay) (b : Nat) (coil : Ident) : Prop :=
  (∃ before e behind, x.plan = before ++ e :: behind ∧ (∀ j ∈ behind, j.status ≠ .placed) ∧ e.status = .placed ∧
    e.coil = coil) ∧
  (∀ e ∈ x.plan, ∀ id, e.status ≠ .moving id) ∧
  ∀ m ∈ s.moves.recs, m.state ≠ .ended → ∀ j, m.source ≠ some (.place (.cradle b j))

/-! ### Weigh points (R117, R146) -/

/-- The value `o` is the fast sum of a weigh point: absent while a channel of it does not run or has no fast weight, and else the
sum of the latest fast weights of its channels, clamped to ±250,000 kg; hoist n has the channels 2n − 2 and 2n − 1, the platforms
of bay b the channels 4 + 2b and 5 + 2b (R112, R117). -/
def State.FastSumIs (s : State) (wp : WeighPoint) (o : Option Int) : Prop :=
  let channels := match wp with
    | .hoist n => [2 * n - 2, 2 * n - 1]
    | .front b => [4 + 2 * b]
    | .rear b => [5 + 2 * b]
  ((∃ ch ∈ channels, (s.channel ch).state ≠ .running ∨ (s.channel ch).fastWeight = none) → o = none) ∧
  ∀ weights : List Int, (∀ ch ∈ channels, (s.channel ch).state = .running) →
    channels.map (fun ch => (s.channel ch).fastWeight) = weights.map some → o = some (max (-250000) (min 250000 weights.sum))

/-- A weigh point is unloaded: the load of the crane of a hoist is FREE, and the presence of the bay of a platform EMPTY, where the
crane or bay is defined (R146 step 4). -/
def State.Unloaded (s : State) : WeighPoint → Prop
  | .hoist n => ∀ c, s.findCrane n = some c → c.load = .free
  | .front b => ∀ x, s.findBay b = some x → x.presence = .empty
  | .rear b => ∀ x, s.findBay b = some x → x.presence = .empty

/-! ### The end of an event (R74, R129, R171) -/

/-- Nothing is left to follow: no result waits to be handed on, no examination is due, and each bay holds the prediction over its
counted coils while its truck is tared, and none before. At most three cranes have a record, and a crane has at most one zone
entry (R69). -/
structure State.Settled (s : State) : Prop where
  handedOn : s.weigh.outbox = []
  examined : s.arbiter.examine = false
  cranes : s.cranes.length ≤ 3
  entries : s.arbiter.requests.Pairwise (fun a b => a.crane ≠ b.crane)
  predicted : ∀ x ∈ s.bays, x.predicted = (match x.truck, x.frontTare, x.rearTare with
    | some t, some f, some r => some (predict t f r (s.counted x none))
    | _, _, _ => none)

/-! ### Capacities (R1, R55, R84, R144, R177) -/

/-- Every table keeps within its capacity, every bank has its registers, and every count lies within its range: 2,048 coils,
24 moves, three links, 14 channels with their calibrations, 11 weigh points with a division each, four bays' lines, and counts that stop at 65,535. -/
structure State.Within (s : State) : Prop where
  coils : s.coils.length ≤ 2048
  moves : s.moves.recs.length ≤ 24
  links : s.links.length = 3
  channels : s.channels.length = 14
  calib : s.calib.length = 14
  points : s.points.length = 11
  lines : s.lines.length = 4
  departures : s.port.departures.length = 4
  dropped : ∀ l ∈ s.links, l.dropped ≤ 65535
  sequence : ∀ l ∈ s.links, l.nextSeq ≤ 255
  yard : s.port.dropped ≤ 65535
  counts : ∀ c ∈ s.calib, c.count ≤ 65535
  divisions : s.settings.divisions.length = 11

/-! ### Keys (R2, R20, R22, R44, R84, R150) -/

/-- No two records of a table have the same key, and move identifiers lie in 1 to 255. -/
structure State.Keyed (s : State) : Prop where
  coils : s.coils.Pairwise (fun a b => a.id ≠ b.id)
  moves : s.moves.recs.Pairwise (fun a b => a.id ≠ b.id)
  moveIds : ∀ m ∈ s.moves.recs, 1 ≤ m.id ∧ m.id ≤ 255
  cranes : s.cranes.Pairwise (fun a b => a.num ≠ b.num)
  bays : s.bays.Pairwise (fun a b => a.cfg.num ≠ b.cfg.num)
  rows : s.store.rows.Pairwise (fun a b => a.cfg.num ≠ b.cfg.num)
  saddles : s.store.saddles.Pairwise (fun a b => a.cfg.num ≠ b.cfg.num)

/-- The rows of the store stand in rising order of number, the order in which the slot finder and R23 take them (R20, R38). -/
def State.RowsRise (s : State) : Prop := s.store.rows.Pairwise (fun a b => a.cfg.num < b.cfg.num)

/-! ### Travel inhibit (R58) -/

/-- Each travel inhibit reason of a crane is present exactly while its condition holds; BREACH is judged by the last position
and the window of a TRACKING crane, and is absent while the crane is UNKNOWN. -/
structure Crane.TravelAgrees (s : State) (c : Crane) : Prop where
  setup : c.travel.setup = true ↔ s.port.mode = .setup
  unknown : c.travel.unknown = true ↔ c.tracking = .unknown
  lost : c.travel.lost = true ↔ c.tracking = .lost
  breach : c.tracking = .tracking → ∃ p, c.lastPos = some p ∧ c.travel.breach = !Window.holds c.window p.1
  noBreach : c.tracking = .unknown → c.travel.breach = false
  bay : c.travel.bay = s.bayReason c

/-- The travel inhibit reason sets of all cranes agree with the state. -/
def State.TravelLaw (s : State) : Prop := ∀ c ∈ s.cranes, c.TravelAgrees s

/-! ### Lamps (R158) -/

/-- Every lamp shows the aspect its bay's presence and phase give. -/
def State.LampsShow (s : State) : Prop := ∀ x ∈ s.bays, x.lamp = lampOf x.presence x.phase

/-! ### The runway (R65, R78) -/

/-- The owned run the Tracker holds for crane `n`. -/
def State.runOf (s : State) (n : Nat) : Option Run := (s.findCrane n).bind Crane.run

/-- Crane `n` owns zone `z`. -/
def State.owns (s : State) (n z : Nat) : Prop :=
  ∃ t rec, s.arbiter.table = some t ∧ t.zone? z = some rec ∧ rec.owner = some n

/-- The ownership law: the zones a crane owns are those of its owned run, so that they form one contiguous run, and for cranes
i < j every zone owned by i lies west of every zone owned by j. -/
structure State.RunwayLaw (s : State) : Prop where
  contiguous : ∀ t z rec n, s.arbiter.table = some t → t.zone? z = some rec →
    (rec.owner = some n ↔ inRun (s.runOf n) z = true)
  ordered : ∀ i j y z, i < j → s.owns i y → s.owns j z → y < z
  shutting : ∀ t rec, s.arbiter.table = some t → rec ∈ t.zones → rec.state = .shutting → rec.owner.isSome = true

/-! ### The queues of the cranes (R69, R85) -/

/-- A crane has at most 8 live moves, at most one of them urgent, and every entry of the request list names a live move of its
crane. -/
structure State.QueueLaw (s : State) : Prop where
  length : ∀ n, (s.queue n).length ≤ 8
  urgent : ∀ n, ((s.queue n).filter Move.urgent).length ≤ 1
  entries : ∀ e ∈ s.arbiter.requests, ∃ m ∈ s.moves.recs, m.id = e.move ∧ m.crane = e.crane ∧ m.live = true

/-! ### The weigh engines (R126) -/

/-- No weigh point has two running requests, no engine runs two, and engines are numbered 1 to 4; arrival numbers tell requests
apart. -/
structure State.EnginesLaw (s : State) : Prop where
  points : (s.weigh.queue.filter WeighRequest.isRunning).Pairwise (fun a b => a.point ≠ b.point)
  engines : (s.weigh.queue.filterMap WeighRequest.run).Pairwise (fun a b => a.engine ≠ b.engine)
  numbered : ∀ r ∈ s.weigh.queue, ∀ e, r.run = some e → 1 ≤ e.engine ∧ e.engine ≤ 4
  arrivals : s.weigh.queue.Pairwise (fun a b => a.arrival ≠ b.arrival)
  next : ∀ r ∈ s.weigh.queue, r.arrival < s.weigh.nextArrival

end Sys2Proof.Machine
end

