-- ==== Sys2Proof/WellFormed.lean ====
section
/-! DEFINITION. Well-formed commands: every operand lies within what its octets on the line can carry (R177, R185, R186). What
the owning rules refuse is no matter of form, and is left to them. -/

namespace Sys2Proof

/-- A number that one octet carries. -/
def fits1 (n : Nat) : Bool := decide (n < 2 ^ 8)

/-- A number that two octets carry. -/
def fits2 (n : Nat) : Bool := decide (n < 2 ^ 16)

/-- A number that four octets carry. -/
def fits4 (n : Nat) : Bool := decide (n < 2 ^ 32)

/-- A signed number that four octets carry in two's complement. -/
def fitsSigned4 (v : Int) : Bool := decide (-(2 ^ 31) ≤ v ∧ v < 2 ^ 31)

/-- An optional number that one octet carries. -/
def fitsOpt1 (o : Option Nat) : Bool := o.all fits1

/-- An identifier as its 11 octets carry it: 1 to 10 characters of one octet each (R185). -/
def fitsIdent (id : Ident) : Bool := decide (1 ≤ id.length ∧ id.length ≤ 10) && id.all (fun c => decide (c.toNat < 2 ^ 8))

/-- A place as its 9 octets carry it. -/
def PlaceRef.wellFormed : PlaceRef → Bool
  | .entry n => fits4 n
  | .floor r g => fits4 r && fits4 g
  | .nest r u => fits4 r && fits4 u
  | .cradle b c => fits4 b && fits4 c

/-- What PROBE names. -/
def ProbeTarget.wellFormed : ProbeTarget → Bool
  | .floor r g => fits4 r && fits4 g
  | .nest r u => fits4 r && fits4 u
  | .entry n => fits4 n
  | .row r => fits1 r

/-- What BLOCK and UNBLOCK name. -/
def BlockTarget.wellFormed : BlockTarget → Bool
  | .place p => p.wellFormed
  | .row r => fits1 r

/-- A move target. -/
def MoveTarget.wellFormed : MoveTarget → Bool
  | .named p => p.wellFormed
  | .auto => true

/-- What MOVES names. -/
def MovesTarget.wellFormed : MovesTarget → Bool
  | .all => true
  | .one id => fits1 id
  | .crane n => fits1 n

/-- A weigh point as its two octets carry it. -/
def WeighPoint.wellFormed : WeighPoint → Bool
  | .hoist n => fits1 n
  | .front b => fits1 b
  | .rear b => fits1 b

/-- The fields an AMEND names. -/
def AmendFields.wellFormed (f : AmendFields) : Bool :=
  f.recorded.all fits4 && f.diameter.all fits2 && f.width.all fits2 && f.cls.all fits1

/-- A cradle of a truck. -/
def CradleDef.wellFormed (d : CradleDef) : Bool := fits2 d.dist && fits2 d.maxWidth

/-- A truck record. -/
def Truck.wellFormed (t : Truck) : Bool :=
  fitsIdent t.id && fits2 t.bogieDist && fits1 t.cradles.length && t.cradles.all CradleDef.wellFormed && fits2 t.wheelbase &&
    fits2 t.fifthWheel && fits2 t.steerShare && fits4 t.steerLimit && fits4 t.driveLimit && fits4 t.bogieLimit &&
    fits4 t.grossLimit

/-- A plan entry. -/
def PlanItem.wellFormed (e : PlanItem) : Bool := fitsIdent e.coil && fits1 e.cradle

/-- A plan. -/
def wellFormedPlan (l : List PlanItem) : Bool := fits1 l.length && l.all PlanItem.wellFormed

/-- A zone of the zone section. -/
def ZoneDef.wellFormed (z : ZoneDef) : Bool :=
  fits1 z.num && fits4 z.start && match z.kind with
    | .bay b => fits1 b
    | _ => true

/-- The zone section. -/
def ZoneSection.wellFormed (z : ZoneSection) : Bool :=
  fits4 z.length && fits1 z.count && fits1 z.zones.length && z.zones.all ZoneDef.wellFormed

/-- A crane of the crane section. -/
def CraneDef.wellFormed (c : CraneDef) : Bool := fits1 c.num && fits2 c.halfLength && fits4 c.tare

/-- The crane section. -/
def CraneSection.wellFormed (c : CraneSection) : Bool := fits1 c.count && fits1 c.cranes.length && c.cranes.all CraneDef.wellFormed

/-- A row of the store section. -/
def RowDef.wellFormed (r : RowDef) : Bool :=
  fits1 r.num && fits4 r.x && fits4 r.y0 && fits2 r.pitch && fits1 r.count && fits2 r.maxWidth && fits2 r.maxDiameter &&
    fits4 r.floorLimit && fits1 r.bearing && fits2 r.mismatch && fits2 r.penalty

/-- A saddle of the store section. -/
def SaddleDef.wellFormed (d : SaddleDef) : Bool := fits1 d.num && fits4 d.x && fits4 d.y

/-- The store section. -/
def StoreSection.wellFormed (d : StoreSection) : Bool :=
  fits1 d.rows.length && d.rows.all RowDef.wellFormed && fits1 d.saddles.length && d.saddles.all SaddleDef.wellFormed

/-- A bay of the bay section. -/
def BayDef.wellFormed (d : BayDef) : Bool :=
  fits1 d.num && fits1 d.zone && fits4 d.kingpin && decide (-128 ≤ d.dir ∧ d.dir < 128) && fits4 d.y

/-- A channel of the channel section. -/
def ChanDef.wellFormed (d : ChanDef) : Bool :=
  fits1 d.num && fits1 d.cfg.order && fits2 d.cfg.decim && fits2 d.cfg.integ && fits1 d.cfg.shift && fits1 d.cfg.fastOrder &&
    fits1 d.cfg.fastDecim

/-- The body of LAYOUT. -/
def LayoutBody.wellFormed (b : LayoutBody) : Bool :=
  b.zone.all ZoneSection.wellFormed && b.crane.all CraneSection.wellFormed && b.store.all StoreSection.wellFormed &&
    b.bay.all (fun l => fits1 l.length && l.all BayDef.wellFormed) &&
    b.channel.all (fun l => fits1 l.length && l.all ChanDef.wellFormed)

/-- One setting of SETTINGS. -/
def SettingItem.wellFormed (i : SettingItem) : Bool :=
  fits4 i.value && match i.key with
    | .division wp => wp.wellFormed
    | _ => true

/-- The descriptive fields of ENTER and PLACE. -/
def wellFormedCoil (id : Ident) (weight diameter width cls : Nat) : Bool :=
  fitsIdent id && fits4 weight && fits2 diameter && fits2 width && fits1 cls

/-- Every operand of a command lies within what its octets carry. -/
def Instr.wellFormed : Instr → Bool
  | .powerOnReset => true
  | .enter q id saddle weight diameter width cls _ _ => fits1 q && fits1 saddle && wellFormedCoil id weight diameter width cls
  | .query q id => fits1 q && fitsIdent id
  | .amend q id f => fits1 q && fitsIdent id && f.wellFormed
  | .retire q id => fits1 q && fitsIdent id
  | .place q id pos weight diameter width cls _ _ =>
    fits1 q && pos.ref.wellFormed && wellFormedCoil id weight diameter width cls
  | .find q id count => fits1 q && fitsIdent id && fitsOpt1 count
  | .probe q what => fits1 q && what.wellFormed
  | .block q what => fits1 q && what.wellFormed
  | .unblock q what => fits1 q && what.wellFormed
  | .crane q num => fits1 q && fitsOpt1 num
  | .shutZone q z => fits1 q && fits1 z
  | .openZone q z => fits1 q && fits1 z
  | .zones q z => fits1 q && fitsOpt1 z
  | .move q coil target n _ => fits1 q && fitsIdent coil && target.wellFormed && fits1 n
  | .park q n x => fits1 q && fits1 n && fits4 x
  | .resume q id => fits1 q && fits1 id
  | .accept q id => fits1 q && fits1 id
  | .retarget q id target => fits1 q && fits1 id && target.all MoveTarget.wellFormed
  | .abort q id => fits1 q && fits1 id
  | .moves q what => fits1 q && what.wellFormed
  | .discard q id => fits1 q && fitsOpt1 id
  | .clearChannel q ch => fits1 q && fits1 ch
  | .clearCrane q n => fits1 q && fits1 n
  | .peaks q wp => fits1 q && wp.all WeighPoint.wellFormed
  | .weigh q wp => fits1 q && wp.wellFormed
  | .weighResult q wp => fits1 q && wp.wellFormed
  | .channels q => fits1 q
  | .calibration q ch => fits1 q && fitsOpt1 ch
  | .zero q wp => fits1 q && wp.wellFormed
  | .span q wp mass => fits1 q && wp.wellFormed && fits4 mass
  | .unhold q b => fits1 q && fits1 b
  | .dismiss q b => fits1 q && fits1 b
  | .bay q b => fits1 q && fitsOpt1 b
  | .announce q b t plan => fits1 q && fits1 b && t.wellFormed && wellFormedPlan plan
  | .replan q b plan => fits1 q && fits1 b && wellFormedPlan plan
  | .modeSetup q => fits1 q
  | .modeRun q => fits1 q
  | .layout q body => fits1 q && body.wellFormed
  | .settings q items => fits1 q && fits1 items.length && items.all SettingItem.wellFormed
  | .restart q => fits1 q
  | .notices q => fits1 q
  | .ack q _ => fits1 q
  | .enable q _ => fits1 q
  | .badRequest q type body => fits1 q && fits1 type && decide (body.length ≤ 1024)
  | .repeatedRequest => true
  | .yardFrameDropped _ => true
  | .frameGapTimeout _ => true
  | .position _ x y => fitsSigned4 x && fitsSigned4 y
  | .gripped _ id x y => fits1 id && fitsSigned4 x && fitsSigned4 y
  | .lifted _ id x y => fits1 id && fitsSigned4 x && fitsSigned4 y
  | .setDown _ id x y => fits1 id && fitsSigned4 x && fitsSigned4 y
  | .opened _ id x y => fits1 id && fitsSigned4 x && fitsSigned4 y
  | .craneFrameDropped _ _ => true
  | .linkSend _ => true
  | .freshnessExpiry _ => true
  | .noClock _ => true
  | .stuck _ => true
  | .fastUpdate _ => true
  | .slack _ => true
  | .grossSample wp => wp.wellFormed
  | .settleTimeout _ => true
  | .arrivalTimer _ => true
  | .departure _ => true
  | .chockLine _ _ => true
  | .clearLine _ _ => true
  | .switchCloses => true
  | .switchOpens => true
  | .risingClockEdge _ _ => true
  | .lengthNotAFrame _ length => fits2 length

end Sys2Proof
end

