-- ==== Sys2Proof/Certificates/Slice0/Obligations.lean ====
section
/-! DEFINITION. What is claimed of the unit: one `Prop` for each claim, each with the rule of spec/ it formalises. -/

open Sys2Proof Sys2Proof.Machine

/-! ### The step, reset and the port -/

/-- A step carries out the command at the front of the queue with the queue's rest. On an empty queue one millisecond passes:
each running freshness, slack, settle, arrival and departure timer goes down by one and stops at 0, and nothing else changes.
Model's choice: the one queue, and the millisecond of an empty queue (notes/assumptions/1.md, notes/assumptions/2.md). -/
def Obligations.StepRunsFrontCommand : Prop :=
  (∀ (c : Instr) (rest : List Instr) (s : State),
    step { s with pending := c :: rest } = exec c { s with pending := rest }) ∧
  ∀ s : State, s.pending = [] →
    let down := fun (t : Timer) => t.map (fun k => if k = 0 then 0 else k - 1)
    step s = .next s.tick ∧
    s.tick = { s with
      cranes := s.cranes.map (fun c => { c with fresh := down c.fresh, slack := down c.slack })
      weigh := { s.weigh with queue := s.weigh.queue.map (fun r =>
        { r with run := r.run.map (fun e => { e with settle := down e.settle }) }) }
      bays := s.bays.map (fun x => { x with arrival := down x.arrival, departure := down x.departure }) }

/-- The values of the state right after reset that the spec gives (R19, R43, R61, R83, R111, R123, R132, R145, R156, R164, R183
and the defaults of R45, R80, R118, R140 to R142, R152, R175): every table empty, every counter at its first value, the lines
low, the calibration switch closed, and every setting at its default, the divisions 10 kg for hoists and 20 kg for platforms. -/
def Obligations.ResetLeavesGivenValues : Prop :=
  let s := State.reset
  s.coils = [] ∧ s.store.rows = [] ∧ s.store.saddles = [] ∧ s.cranes = [] ∧ s.moves.recs = [] ∧ s.bays = [] ∧
  s.arbiter.table = none ∧ s.arbiter.policy = .age ∧ s.arbiter.requests = [] ∧ s.arbiter.lastGranted = 0 ∧
  s.arbiter.nextArrival = 1 ∧ s.moves.lastId = 0 ∧ s.weigh.queue = [] ∧ s.weigh.nextArrival = 1 ∧
  (∀ e, s.engineRequest e = none) ∧
  (∀ l ∈ s.links, l.dropped = 0 ∧ l.waiting = []) ∧ s.links.length = 3 ∧
  (∀ c ∈ s.channels, c.state = .unconfigured) ∧ s.channels.length = 14 ∧
  (∀ p ∈ s.points, p.peak = -250000 ∧ p.trough = 250000 ∧ p.level = .none ∧ p.slot = none) ∧ s.points.length = 11 ∧
  s.port.mode = .setup ∧ s.port.flags = 0 ∧ s.port.mask = 0 ∧ s.port.attention = false ∧ s.port.kept = none ∧
  s.port.dropped = 0 ∧ s.port.departures = List.replicate 4 none ∧ s.port.partialFrame = [] ∧ s.pending = [] ∧
  s.switchClosed = true ∧ s.lines = List.replicate 4 { chock := false, clear := false } ∧
  (∀ n, s.travelLine n = true ∧ s.raiseLine n = true) ∧ (∀ b, s.lampLine b = .off) ∧
  s.settings.freshness = 500 ∧ s.settings.tolerance = 150 ∧ s.settings.autoYield = true ∧ s.settings.stuckRun = 64 ∧
  s.settings.overload = 60000 ∧ s.settings.slack = 1000 ∧ s.settings.arrivalThreshold = 2000 ∧
  s.settings.emptyThreshold = 500 ∧ s.settings.slackTime = 300 ∧ s.settings.settleTimeout = 3000 ∧
  (∀ wp, wp.valid = true → s.division wp = (match wp with | .hoist _ => 10 | _ => 20)) ∧
  s.settings.window = 4 ∧ s.settings.band = 1 ∧ s.settings.allowance = 200 ∧ s.settings.ratio = 10 ∧
  s.settings.arrivalTime = 3 ∧ s.settings.departureTime = 5 ∧ s.settings.bayAllowance = 300 ∧ s.settings.bayRatio = 20

/-- A request equal to the kept one in sequence, type and body is not taken again: its kept response goes on the line and
nothing else changes, whether it comes as the request itself or is reported as a repeated request (R178). Every request not
taken last is answered: the response on the line carries the attention line as it then stands, and the request and its response
are kept (R178). Model's choice: that each request command compares itself with the kept one (notes/assumptions/36.md). -/
def Obligations.RequestsAnsweredOnce : Prop :=
  (∀ (s : State) (k : Kept), s.port.kept = some k →
     exec .repeatedRequest s = .next { s with port := { s.port with partialFrame := [], out := some k.response } } ∧
     (isRequest k.request = true →
       exec k.request s = .next { s with port := { s.port with partialFrame := [], out := some k.response } })) ∧
  (∀ (s : State) (i : Instr), isRequest i = true → s.fresh i →
     ∃ (t : State) (r : Response), exec i s = .next t ∧ t.port.out = some r ∧ r.attention = t.port.attention ∧
       t.port.kept = some { request := i, response := r })

/-- A request of unknown type, or with a body that cannot be read, is answered BAD_REQUEST and changes nothing (R178); a yard
link frame dropped for its check or for a full buffer gets no response and raises the dropped-frame count, which stops at 65,535
(R177); a gap of more than 5 ms discards the frame so far on its receiver alone (R177). A length outside 2 to 1,026 is no frame:
the receiver keeps nothing but the next start mark and what follows it, where one of the two length octets is a start mark; a
length inside is kept with its start mark (R177). Model's choice: REPEATED_REQUEST with nothing kept, and the receiver left
empty by a whole frame (notes/assumptions/36.md, notes/assumptions/37.md). -/
def Obligations.FramesThatReachNoBlock : Prop :=
  ((∀ (s : State) (q ty : Nat) (body : List Octet), s.fresh (.badRequest q ty body) →
     Refused (.badRequest q ty body) s .badRequest) ∧
   (∀ (s : State) (cause : YardDrop),
     exec (.yardFrameDropped cause) s = .next { s with port := { s.port with
       dropped := if s.port.dropped < 65535 then s.port.dropped + 1 else s.port.dropped, partialFrame := [], out := none } }) ∧
   (∀ s : State, exec (.frameGapTimeout .yard) s = .next { s with port := { s.port with partialFrame := [] } }) ∧
   (∀ (s : State) (k : Fin 3), exec (.frameGapTimeout (.crane k)) s =
     .next { s with links := s.links.modify k.val (fun l => { l with partialFrame := [] }) }) ∧
   (∀ s : State, s.port.kept = none → exec .repeatedRequest s = .next s)) ∧
  (∀ (s : State) (n : Nat), n < 65536 →
     let hi : Octet := BitVec.ofNat 8 (n / 256)
     let lo : Octet := BitVec.ofNat 8 n
     let held : List Octet :=
       if 2 ≤ n ∧ n ≤ 1026 then [0xA5, hi, lo] else if hi = 0xA5 then [hi, lo] else if lo = 0xA5 then [lo] else []
     exec (.lengthNotAFrame .yard n) s = .next { s with port := { s.port with partialFrame := held } } ∧
     ∀ k : Fin 3, exec (.lengthNotAFrame (.crane k) n) s =
       .next { s with links := s.links.modify k.val (fun l => { l with partialFrame := held }) })

/-- ACK clears each named flag and with a DEPARTURE flag its data; ENABLE makes the named flags the whole mask; both answer with
flags and mask as they then stand, and change nothing else (R184). The attention line is asserted exactly while some flag is set
that is also in the enable mask (R184). -/
def Obligations.NoticesFollowAckAndMask : Prop :=
  ((∀ (s : State) (q : Nat) (f : BitVec 44), s.fresh (.ack q f) →
     ∃ d : List (Option DepartureData),
       (∀ b < 4, d[b]? = (s.port.departures[b]?).map (fun old => if f.getLsbD (39 + b) then none else old)) ∧
       d.length = s.port.departures.length ∧
       Answers (.ack q f) s { s.taking with port := { s.taking.port with flags := s.port.flags &&& ~~~f, departures := d } }
         (.flags (s.port.flags &&& ~~~f) s.port.mask)) ∧
   (∀ (s : State) (q : Nat) (f : BitVec 44), s.fresh (.enable q f) →
     Answers (.enable q f) s { s.taking with port := { s.taking.port with mask := f } } (.flags s.port.flags f))) ∧
  (∀ p : Port, p.attention = true ↔ ∃ k < 44, p.flags.getLsbD k = true ∧ p.mask.getLsbD k = true)

/-! ### Coil records (chapter 1) -/

/-- ENTER by the checks of R12 in their order; a record created stands on its saddle, which becomes OCCUPIED, and nothing else
changes. -/
def Obligations.EnterCreatesOrRefuses : Prop :=
  ∀ (s : State) (q : Nat) (id : Ident) (saddle w d b c : Nat) (be ho : Option Bool),
    let i := Instr.enter q id saddle w d b c be ho
    s.fresh i →
    if identOk id = false then Refused i s .badIdent
    else if ¬ (500 ≤ w ∧ w ≤ 45000 ∧ 600 ≤ d ∧ d ≤ 2400 ∧ 500 ≤ b ∧ b ≤ 2200 ∧ 1 ≤ c ∧ c ≤ 8 ∧ 1 ≤ saddle ∧ saddle ≤ 4) then
      Refused i s .outOfRange
    else match s.findSaddle saddle with
      | none => Refused i s .unknown
      | some x =>
        if (s.findCoil id).isSome = true then Refused i s .duplicate
        else if x.place.state ≠ .free ∨ x.place.blocked = true then Refused i s .placeBusy
        else if 2048 ≤ s.coils.length then Refused i s .tableFull
        else
          let coil : Coil :=
            { id := id, recorded := w, measured := none, verification := .unverified, diameter := d, width := b, cls := c,
              bearing := be.getD false, hold := ho.getD false, alloc := none, loc := .place (.entry saddle), move := none }
          Answers i s
            { s.taking with
              coils := s.coils ++ [coil]
              store := { s.store with saddles := s.store.saddles.map (fun y =>
                if y.cfg.num = saddle then { y with place := { y.place with state := .occupied id } } else y) } }
            (.coil { coil := coil, reference := w, present := none, count := s.coils.length + 1 })

/-- QUERY changes nothing: it is refused with BAD_IDENT or UNKNOWN, or gives every field of the record, the reference weight,
the present calibration counts of the channels that measured it, and the count of records (R13). -/
def Obligations.QueryReturnsTheRecord : Prop :=
  ∀ (s : State) (q : Nat) (id : Ident), s.fresh (.query q id) →
    if identOk id = false then Refused (.query q id) s .badIdent
    else match s.findCoil id with
      | none => Refused (.query q id) s .unknown
      | some c => Answers (.query q id) s s.taking
          (.coil { coil := c
                   reference := (match c.measured with | some m => m.value | none => c.recorded)
                   present := c.measured.map (fun m =>
                     ((s.calibOf (2 * m.crane - 2)).count, (s.calibOf (2 * m.crane - 1)).count))
                   count := s.coils.length })

/-- RETIRE by the checks of R16 in their order: the record leaves the table, a saddle it stood on becomes FREE with its blocked
mark kept, and nothing else changes. -/
def Obligations.RetireRemovesOrRefuses : Prop :=
  ∀ (s : State) (q : Nat) (id : Ident), s.fresh (.retire q id) →
    let i := Instr.retire q id
    let left := s.coils.filter (fun c => c.id != id)
    if identOk id = false then Refused i s .badIdent
    else match s.findCoil id with
      | none => Refused i s .unknown
      | some c =>
        if c.move.isSome = true then Refused i s .busy
        else if c.alloc.isSome = true then Refused i s .allocated
        else match c.loc with
          | .astray _ _ => Answers i s { s.taking with coils := left } (.count left.length)
          | .place (.entry n) => Answers i s
              { s.taking with
                coils := left
                store := { s.store with saddles := s.store.saddles.map (fun y =>
                  if y.cfg.num = n then { y with place := { y.place with state := .free } } else y) } }
              (.count left.length)
          | _ => Refused i s .wrongPlace

/-- AMEND is refused by the first of its checks that fails (R14, R15); otherwise it writes the named fields of the one record,
re-judges its verification where the recorded weight changed and a measured weight is present, and leaves every other record,
the places, cranes, runway, moves and weigh points as they were; bays change only where reference weight or width changed: their
predicted loads follow a changed reference weight, and a tared bay in whose plan the coil is WAITING makes its plan check, holds
the result, and at a failure the limit reason with BAY_CHANGE, its lamp at the aspect of R158 (R15, R171, R173). An amended coil
fits at a floor where it and what lies in or is bound for each nest above it fit, in a nest or on a cradle where it fits, and
anywhere else; its width is within that of the cradle its plan entry names; and no bay it counts towards exceeds its truck's
limits (R14, R15). Model's choice: an AMEND that names no field, when the axle check is made, and the result held where the plan
check passes (notes/assumptions/17.md, notes/assumptions/53.md). -/
def Obligations.AmendWritesNamedFields : Prop :=
  (∀ (s : State) (c : Coil),
    (s.amendFits c = true ↔ match c.loc with
      | .place (.floor r g) => s.fits none (.floor r g) c = true ∧
          ∀ u x id d, (u + 1 = g ∨ u = g) → s.findPlace (.nest r u) = some x → x.state.coil? = some id → s.findCoil id = some d →
            s.fits none (.nest r u) d = true
      | .place (.nest r u) => s.fits none (.nest r u) c = true
      | .place (.cradle b k) => s.fits none (.cradle b k) c = true
      | _ => True) ∧
    (s.plannedWidthFits c = true ↔ ∀ a x t e d, c.alloc = some a → s.findBay a.bay = some x → nth? x.plan a.index = some e →
      x.truck = some t → nth? t.cradles e.cradle = some d → c.width ≤ d.maxWidth) ∧
    (s.countedOver c = true ↔ ∃ x ∈ s.bays, (∃ k, s.CountsAt c x.cfg.num k) ∧ x.Exceeds (s.counted x none))) ∧
  ∀ (s : State) (q : Nat) (id : Ident) (f : AmendFields),
    let i := Instr.amend q id f
    s.fresh i →
    if identOk id = false then Refused i s .badIdent
    else match s.findCoil id with
      | none => Refused i s .unknown
      | some c =>
        let r := f.recorded.getD c.recorded
        let c' : Coil :=
          { c with
            recorded := r, diameter := f.diameter.getD c.diameter, width := f.width.getD c.width, cls := f.cls.getD c.cls
            bearing := f.bearing.getD c.bearing, hold := f.hold.getD c.hold
            verification := (match c.measured with
              | some m => if r = c.recorded then c.verification
                  else if ((m.value : Int) - r).natAbs ≤ max s.settings.allowance (r * s.settings.ratio / 1000) then .verified
                  else .mismatch
              | none => c.verification) }
        let coils := s.coils.map (fun k => if k.id = id then c' else k)
        let s' : State := { s with coils := coils }
        if (∃ v ∈ f.recorded, ¬ (500 ≤ v ∧ v ≤ 45000)) ∨ (∃ v ∈ f.diameter, ¬ (600 ≤ v ∧ v ≤ 2400)) ∨
            (∃ v ∈ f.width, ¬ (500 ≤ v ∧ v ≤ 2200)) ∨ (∃ v ∈ f.cls, ¬ (1 ≤ v ∧ v ≤ 8)) then Refused i s .outOfRange
        else if c.move.isSome = true then Refused i s .busy
        else if f.hold = some true ∧ c.alloc.isSome = true then Refused i s .allocated
        else if namesNone f = false ∧ (s'.amendFits c' = false ∨ s'.plannedWidthFits c' = false) then Refused i s .unfit
        else if namesNone f = false ∧ c'.reference ≠ c.reference ∧ s'.countedOver c' = true then Refused i s .axleLimit
        else
          let changed := c'.reference ≠ c.reference ∨ c'.width ≠ c.width
          let checks := fun (n : Nat) (x : Bay) => changed ∧ x.frontTare.isSome = true ∧ x.rearTare.isSome = true ∧
            ∃ a e, c.alloc = some a ∧ a.bay = n ∧ nth? x.plan a.index = some e ∧ e.coil = id ∧ e.status = .waiting
          let predicted := fun (x : Bay) =>
            if c'.reference = c.reference then x.predicted
            else match x.truck, x.frontTare, x.rearTare with
              | some t, some f, some r => some (predict t f r (s'.counted x none))
              | _, _, _ => none
          ∃ u : State,
          Answers i s u (.coil { coil := c', reference := c'.reference
                                 present := c.measured.map (fun m =>
                                   ((s.calibOf (2 * m.crane - 2)).count, (s.calibOf (2 * m.crane - 1)).count))
                                 count := s.coils.length }) ∧
          u = { s.taking with coils := coils, bays := u.bays, port := { s.taking.port with flags := u.port.flags } } ∧
          (c'.reference = c.reference → c'.width = c.width → u.bays = s.bays ∧ u.port.flags = s.port.flags) ∧
          (∀ n, s.findBay n = none → u.findBay n = none) ∧
          (∀ n x, s.findBay n = some x → ¬ checks n x → u.findBay n = some { x with predicted := predicted x }) ∧
          (∀ n x, s.findBay n = some x → checks n x →
            u.findBay n = some
              { x with
                predicted := predicted x, planCheck := some (s'.planCheck x), lamp := lampOf x.presence x.phase
                hold := (match s'.planCheck x with
                  | .passed => x.hold
                  | .failed 0 _ => some .tareLimit
                  | .failed _ _ => some .planLimit) } ∧
            u.port.flags = (if s'.planCheck x = .passed then s.port.flags else s.port.flags ||| (Notice.bayChange n).bit)) ∧
          ((∀ n x, s.findBay n = some x → ¬ checks n x) → u.port.flags = s.port.flags)

/-! ### The store (chapter 2) -/

/-- PLACE by the checks of R42 in their order; a record created lies at its place, which becomes OCCUPIED, and nothing else
changes. -/
def Obligations.PlaceCreatesOrRefuses : Prop :=
  ∀ (s : State) (q : Nat) (id : Ident) (pos : StorePos) (w d b c : Nat) (be ho : Option Bool),
    let i := Instr.place q id pos w d b c be ho
    let coil : Coil :=
      { id := id, recorded := w, measured := none, verification := .unverified, diameter := d, width := b, cls := c,
        bearing := be.getD false, hold := ho.getD false, alloc := none, loc := .place pos.ref, move := none }
    s.fresh i →
    if s.port.mode = .run then Refused i s .wrongMode
    else if identOk id = false then Refused i s .badIdent
    else if ¬ (500 ≤ w ∧ w ≤ 45000 ∧ 600 ≤ d ∧ d ≤ 2400 ∧ 500 ≤ b ∧ b ≤ 2200 ∧ 1 ≤ c ∧ c ≤ 8) then Refused i s .outOfRange
    else match s.findPlace pos.ref with
      | none => Refused i s .unknown
      | some x =>
        if (s.findCoil id).isSome = true then Refused i s .duplicate
        else if x.state ≠ .free ∨ x.blocked = true then Refused i s .placeBusy
        else if s.fits none pos.ref coil = false then Refused i s .unfit
        else if 2048 ≤ s.coils.length then Refused i s .tableFull
        else
          let rows := match pos with
            | .floor r g => s.store.rows.map (fun y =>
                if y.cfg.num = r then { y with floors := modifyNth y.floors g (fun p => { p with state := .occupied id }) } else y)
            | .nest r u => s.store.rows.map (fun y =>
                if y.cfg.num = r then { y with nests := modifyNth y.nests u (fun p => { p with state := .occupied id }) } else y)
          Answers i s { s.taking with coils := s.coils ++ [coil], store := { s.store with rows := rows } }
            (.coil { coil := coil, reference := w, present := none, count := s.coils.length + 1 })

/-- A coil fits a floor position by its class, width, diameter and the floor load figure with it (R28), a nest by the nest tier,
its two OCCUPIED bearing supports, their widths, diameters and weights and the figure of each (R29), a cradle by its width
(R166), and every saddle; the floor load figure is twice the weight on or bound for the position and that of the two nests above
it (R27). The slot finder offers every FREE, unblocked, fitting place of a row whose zone is not SHUT and no other, each at the
cost of R38, the cheapest first and equal costs in the order of the table of rows, which rises by row number
(StepKeepsTablesAndLamps), floors before nests; FIND returns the first of them up to the count, with their number and the
trapped mark, and changes nothing; it is refused with BAD_IDENT, UNKNOWN, OUT_OF_RANGE or NO_POSITION, in this order (R37 to
R39). Model's choice: whether a coil at rest is offered its own place (notes/assumptions/18.md). -/
def Obligations.FindOffersCheapestFittingPlaces : Prop :=
  (∀ (s : State) (source : Option PlaceRef) (c : Coil),
    let weight := fun (k : Coil) => match k.measured with | some m => m.value | none => k.recorded
    let w : PlaceRef → Nat := fun p => match (s.findPlace p).map Place.state with
      | some (.occupied id) => ((s.findCoil id).map weight).getD 0
      | some (.incoming _ id) => ((s.findCoil id).map weight).getD 0
      | some (.outgoing _ id) => ((s.findCoil id).map weight).getD 0
      | _ => 0
    let goes := fun (row : Row) =>
      1 ≤ c.cls ∧ row.cfg.classes.getLsbD (c.cls - 1) = true ∧ c.width ≤ row.cfg.maxWidth ∧ c.diameter ≤ row.cfg.maxDiameter
    let support := fun (p : PlaceRef) (k : Coil) => source ≠ some p ∧ ∃ x id, s.findPlace p = some x ∧ x.state = .occupied id ∧
      s.findCoil id = some k ∧ k.bearing = true
    (∀ n, s.fits source (.entry n) c = true) ∧
    (∀ b k, s.fits source (.cradle b k) c = true ↔
      ∃ x t d, s.findBay b = some x ∧ x.truck = some t ∧ nth? t.cradles k = some d ∧ c.width ≤ d.maxWidth) ∧
    (∀ r g, s.floorLoad r g = 2 * w (.floor r g) + w (.nest r (g - 1)) + w (.nest r g)) ∧
    (∀ r g, s.fits source (.floor r g) c = true ↔ ∃ row, s.findRow r = some row ∧ goes row ∧
      2 * weight c + w (.nest r (g - 1)) + w (.nest r g) ≤ 2 * row.cfg.floorLimit) ∧
    (∀ r u, s.fits source (.nest r u) c = true ↔ ∃ row a b, s.findRow r = some row ∧ row.cfg.nests = true ∧
      1 ≤ c.cls ∧ row.cfg.classes.getLsbD (c.cls - 1) = true ∧ c.diameter ≤ row.cfg.maxDiameter ∧
      support (.floor r u) a ∧ support (.floor r (u + 1)) b ∧ c.width ≤ a.width ∧ c.width ≤ b.width ∧
      ((a.diameter : Int) - b.diameter).natAbs ≤ row.cfg.mismatch ∧
      100 * weight c ≤ row.cfg.bearing * min (weight a) (weight b) ∧
      2 * weight a + w (.nest r (u - 1)) + weight c ≤ 2 * row.cfg.floorLimit ∧
      2 * weight b + w (.nest r (u + 1)) + weight c ≤ 2 * row.cfg.floorLimit)) ∧
  ∀ (s : State) (q : Nat) (id : Ident) (n : Option Nat),
    let i := Instr.find q id n
    s.fresh i →
    if identOk id = false then Refused i s .badIdent
    else match s.findCoil id with
    | none => Refused i s .unknown
    | some c =>
      if ¬ (1 ≤ n.getD 1 ∧ n.getD 1 ≤ 8) then Refused i s .outOfRange
      else match (s.locPos c.loc).map Prod.fst with
      | none => Refused i s .noPosition
      | some x =>
        ∃ all, s.Offers (if c.move.isSome then c.loc.place? else none) c x all ∧
          (if all = [] then exec i s = .next (s.taking.respond i
              { status := .noPlace, item := none, data := .found [] 0 (s.coilTrapped c) })
           else Answers i s s.taking (.found (all.take (n.getD 1)) all.length (s.coilTrapped c)))

/-- BLOCK sets and UNBLOCK clears the blocked mark of exactly the place named, or of every floor and nest position of the row
named, whatever their states; both are refused with UNKNOWN for what is not defined (R41). Said of every place through the one
read of a place. -/
def Obligations.BlockMarksExactlyWhatIsNamed : Prop :=
  ∀ (s : State) (q : Nat) (what : BlockTarget) (mark : Bool),
    let i := if mark then Instr.block q what else Instr.unblock q what
    let named : PlaceRef → Bool := fun p => match what, p with
      | .place p', p => p == p'
      | .row r, .floor r' _ => r == r'
      | .row r, .nest r' _ => r == r'
      | .row _, _ => false
    s.fresh i → s.LampsShow →
    if (match what with | .place p => (s.findPlace p).isNone | .row r => (s.findRow r).isNone) = true then Refused i s .unknown
    else ∃ u : State, Answers i s u .none ∧
      (∀ p, u.findPlace p = (s.findPlace p).map (fun x => if named p = true then { x with blocked := mark } else x)) ∧
      u = { s.taking with store := u.store, bays := u.bays } ∧
      u.bays.map (fun x => { x with cradles := [] }) = s.bays.map (fun x => { x with cradles := [] }) ∧
      u.store.rows.map Row.cfg = s.store.rows.map Row.cfg ∧ u.store.saddles.map Saddle.cfg = s.store.saddles.map Saddle.cfg

/-! ### Readers (R13, R40, R60, R82, R110, R131, R144, R163, R184) -/

/-- The requests that only read change nothing: PROBE, CRANE, ZONES, MOVES, CHANNELS, CALIBRATION, BAY and NOTICES answer OK
with what they name, or are refused for a place, row, crane, zone, move, channel or bay that is out of range or not defined.
Model's choice: the zone state of a row that lies in no zone, UNKNOWN for MOVES of a crane below 1, in CHANNELS the level of a
hoist and the request an engine runs, and the answer of ZONES before any zone section (notes/assumptions/55.md,
notes/assumptions/58.md, notes/assumptions/63.md, notes/assumptions/84.md). -/
def Obligations.ReadersAnswerAndChangeNothing : Prop :=
  ∀ (s : State) (q : Nat),
    (∀ p : ProbeTarget, s.fresh (.probe q p) →
      let one := fun (r : PlaceRef) => match s.placeView r with
        | some v => Answers (.probe q p) s s.taking (.place v)
        | none => Refused (.probe q p) s .unknown
      match p with
      | .floor r g => one (.floor r g)
      | .nest r u => one (.nest r u)
      | .entry n => one (.entry n)
      | .row r => match s.findRow r with
        | some row => Answers (.probe q p) s s.taking
            (.row (row.places.filterMap s.placeView) row.cfg (s.zoneStateAt row.cfg.x))
        | none => Refused (.probe q p) s .unknown) ∧
    (s.fresh (.crane q none) → Answers (.crane q none) s s.taking (.cranes (s.cranes.map s.craneView))) ∧
    (∀ n, s.fresh (.crane q (some n)) →
      if n < 1 ∨ 3 < n then Refused (.crane q (some n)) s .outOfRange
      else match s.findCrane n with
        | none => Refused (.crane q (some n)) s .unknown
        | some c => Answers (.crane q (some n)) s s.taking (.cranes [s.craneView c])) ∧
    (s.fresh (.zones q none) → Answers (.zones q none) s s.taking
      (.zoneTable (s.arbiter.table.map ZoneTable.length) s.arbiter.policy s.settings.autoYield s.arbiter.lastGranted
        s.zoneViews s.entryViews)) ∧
    (∀ z, s.fresh (.zones q (some z)) →
      if z < 1 ∨ 32 < z then Refused (.zones q (some z)) s .outOfRange
      else match s.zoneViews.find? (fun v => v.num == z) with
        | none => Refused (.zones q (some z)) s .unknown
        | some v => Answers (.zones q (some z)) s s.taking (.zone v (s.entryViews.filter (fun e => inRun e.1.run z)))) ∧
    (s.fresh (.moves q .all) → Answers (.moves q .all) s s.taking
      (.moves (([1, 2, 3].flatMap s.craneMoves).map s.moveView) (some s.moves.recs.length))) ∧
    (∀ id, s.fresh (.moves q (.one id)) → match s.findMove id with
      | none => Refused (.moves q (.one id)) s .unknown
      | some m => Answers (.moves q (.one id)) s s.taking (.moves [s.moveView m] none)) ∧
    (∀ n, s.fresh (.moves q (.crane n)) →
      if (s.findCrane n).isNone = true then Refused (.moves q (.crane n)) s .unknown
      else Answers (.moves q (.crane n)) s s.taking (.moves ((s.craneMoves n).map s.moveView) none)) ∧
    (s.fresh (.channels q) → ∃ d, Answers (.channels q) s s.taking d ∧ d =
      .channels ((List.range 14).map s.channelView) (allPoints.map (fun wp => (wp, s.fastSum wp, (s.point wp).level)))
        (s.cranes.map (fun c => (c.num, c.slack))) (s.weigh.queue.map WeighRequest.view)
        ([1, 2, 3, 4].map (fun e => (s.engineRequest e).map WeighRequest.arrival))) ∧
    (s.fresh (.calibration q none) → Answers (.calibration q none) s s.taking
      (.calibration ((List.range 14).map (fun ch => (ch, s.calibOf ch))) s.switchClosed)) ∧
    (∀ ch, s.fresh (.calibration q (some ch)) →
      if 13 < ch then Refused (.calibration q (some ch)) s .outOfRange
      else Answers (.calibration q (some ch)) s s.taking (.calibration [(ch, s.calibOf ch)] s.switchClosed)) ∧
    (s.fresh (.bay q none) → Answers (.bay q none) s s.taking (.bays (s.bays.map s.bayView))) ∧
    (∀ b, s.fresh (.bay q (some b)) →
      if b < 1 ∨ 4 < b then Refused (.bay q (some b)) s .outOfRange
      else match s.findBay b with
        | none => Refused (.bay q (some b)) s .unknown
        | some x => Answers (.bay q (some b)) s s.taking (.bays [s.bayView x])) ∧
    (s.fresh (.notices q) → Answers (.notices q) s s.taking
      (.notices s.port.flags s.port.mask s.port.departures s.port.dropped (s.links.map Link.dropped)))

/-! ### Cranes and their links (chapter 3) -/

/-- The travel inhibit line of a crane is asserted while its reason set is not empty, and the raise inhibit line likewise; both
lines of a crane with no record are asserted (R44, R57). -/
def Obligations.InhibitLinesFollowReasonSets : Prop :=
  ∀ (s : State) (n : Nat), match s.findCrane n with
    | none => s.travelLine n = true ∧ s.raiseLine n = true
    | some c =>
      (s.travelLine n = false ↔ c.travel = { setup := false, unknown := false, lost := false, breach := false, bay := false }) ∧
      (s.raiseLine n = false ↔ c.raise = { overload := false, fault := false, strayGrip := false })

/-- POSITION of a crane in UNKNOWN: it takes its footprint and enters TRACKING where the attempt of R51 succeeds, with the
window of its new run placed on the link, and otherwise only its position and freshness timer change; for a crane with no record
the frame is dropped and counted (R44, R50, R51). POSITION of a TRACKING or LOST crane: the crane is TRACKING afterwards with
the position reported, its freshness timer restarted, and BREACH as its window judges that position; a crane back from LOST
raises CRANE_STATE and has the window it held placed on its link again, before any other (R50). A TRAVELLING head whose target
lies within the tolerance of the reported X ends DONE, and no other POSITION changes a move (R100). A POSITION inside the window
shrinks the owned run to the smallest run that holds the zones it owns of the footprint and of what its head needs; the zones
outside it lose their owner, a SHUTTING one becoming SHUT, an examination follows, and the window is that of the new run; a
POSITION outside the window releases nothing (R49, R74, R76). A freshness timer that runs and expires stops; a TRACKING crane
enters LOST with LOST in its reason set and CRANE_STATE raised, its run and window as they were; in UNKNOWN and LOST the expiry
has no other effect (R52). Model's choice: an expiry with no timer running, and the window at a footprint clipped at a runway
end (notes/assumptions/21.md, notes/assumptions/8.md). -/
def Obligations.TrackingFollowsPositions : Prop :=
  (∀ (s : State) (link : Fin 3) (x y : Int),
     let n := link.val + 1
     (s.findCrane n = none → exec (.position link x y) s = .next
       (s.updLink n (fun l => { l with partialFrame := [], dropped := if l.dropped < 65535 then l.dropped + 1 else l.dropped }))) ∧
     ∀ c, s.findCrane n = some c → c.tracking = .unknown →
       let u := (s.hearing link).updCrane n (fun k => { k with fresh := some s.settings.freshness, lastPos := some (x, y) })
       ((¬ ∃ t r, s.arbiter.table = some t ∧ t.footprint c.halfLength x = some r ∧ TrackableRun t n r) →
         exec (.position link x y) s = .next u.settle) ∧
       ∀ t r, s.arbiter.table = some t → t.footprint c.halfLength x = some r → TrackableRun t n r →
         ∃ (v : State) (k : Crane), exec (.position link x y) s = .next v.settle ∧
           v.findCrane n = some k ∧ k.tracking = .tracking ∧ k.run = some r ∧ k.travel.unknown = false ∧
           k.lastPos = some (x, y) ∧ k.window = v.windowOf k ∧ v.arbiter.table = some (t.assign n (some r)) ∧
           v.port.flags = s.port.flags ||| (Notice.craneState n).bit ||| (v.port.flags &&& (Notice.breach n).bit) ∧
           v.links = s.links.modify link.val (fun l => ({ l with partialFrame := [] } : Link).place (.window k.window)) ∧
           v.moves = s.moves ∧ v.coils = s.coils ∧ v.arbiter.examine = true) ∧
  (∀ (s : State) (link : Fin 3) (x y : Int) (c : Crane),
     let n := link.val + 1
     s.findCrane n = some c → c.tracking ≠ .unknown →
       ∃ (v : State) (k : Crane), exec (.position link x y) s = .next v.settle ∧ v.findCrane n = some k ∧
         k.tracking = .tracking ∧ k.travel.lost = (if c.tracking = .lost then false else c.travel.lost) ∧
         k.lastPos = some (x, y) ∧ k.fresh = some s.settings.freshness ∧
         k.travel.breach = !Window.holds k.window x ∧ k.tongs = c.tongs ∧ k.load = c.load ∧ k.raise = c.raise ∧
         (c.tracking = .lost → v.port.flags.getLsbD (Notice.craneState n).index = true) ∧
         (∀ l, c.tracking = .lost → s.links[link.val]? = some l →
           let again := ({ l with partialFrame := [] } : Link).place (.window c.window)
           v.links[link.val]? = some again ∨ v.links[link.val]? = some (again.place (.window k.window))) ∧
         (let ends := fun (m : Move) =>
            m.state = .travelling ∧ ∃ X, m.target = some (.runway X) ∧ (x - X).natAbs ≤ s.settings.tolerance
          (∀ m, s.Keyed → s.head n = some m → ends m →
            (∃ m', v.findMove m.id = some m' ∧ m'.state = .ended ∧ m'.outcome = some .done) ∧
            v.port.flags.getLsbD (Notice.moveEnded n).index = true) ∧
          ((∀ m, s.head n = some m → ¬ ends m) →
            v.moves = s.moves ∧
            (Window.holds c.window x = false → k.run = c.run ∧ k.window = c.window ∧ v.arbiter.table = s.arbiter.table) ∧
            ∀ t, Window.holds c.window x = true → s.arbiter.table = some t →
              let needed : List Int := (match s.head n with
                | none => []
                | some m =>
                  let source := (s.sourceX m).toList
                  let target := (s.targetX m).toList
                  if m.state = .toSource ∨ m.state = .gripped then source ++ target
                  else if m.state = .weighing ∨ m.state = .carrying ∨ m.state = .placed ∨ m.state = .travelling then target
                  else if m.state = .held ∧ m.hold ≠ some .crossing ∧ m.kind = .carry then
                    (if s.onHook m = true then target else source ++ target)
                  else [])
              let kept := fun z => inRun c.run z = true ∧ ∃ X ∈ x :: needed, inRun (t.footprint c.halfLength X) z = true
              (∀ z, inRun k.run z = true ↔ ∃ a b, kept a ∧ kept b ∧ a ≤ z ∧ z ≤ b) ∧ k.window = v.windowOf k ∧
              ∃ t', v.arbiter.table = some t' ∧ ∀ z rec, t.zone? z = some rec →
                t'.zone? z = some (if inRun k.run z = true then { rec with owner := some n }
                  else if rec.owner = some n then
                    { rec with owner := none, state := if rec.state = .shutting then .shut else rec.state }
                  else rec) ∧
                (rec.owner = some n → inRun k.run z = false → v.arbiter.examine = true))) ∧
         (∀ j, s.port.flags.getLsbD j = true → v.port.flags.getLsbD j = true)) ∧
  (∀ (s : State) (link : Fin 3) (c : Crane),
     let n := link.val + 1
     s.findCrane n = some c →
       (c.fresh = none → exec (.freshnessExpiry link) s = .next s) ∧
       (c.fresh.isSome = true → c.tracking ≠ .tracking → exec (.freshnessExpiry link) s = .next
         (s.beginEvent.updCrane n (fun k => { k with fresh := none })).settle) ∧
       (c.fresh.isSome = true → c.tracking = .tracking → exec (.freshnessExpiry link) s = .next
         ((s.beginEvent.updCrane n (fun k =>
           { k with fresh := none, tracking := .lost, travel := { k.travel with lost := true } })).raise (.craneState n)).settle))

/-- GRIPPED of a defined crane: with the tongs CLOSED only PROTOCOL is raised; otherwise they become CLOSED, and a head in
TO_SOURCE named by the event enters GRIPPED at its source, or is HELD (STRAY_GRIP) with STRAY_GRIP added away from it; any other
GRIPPED raises PROTOCOL and adds STRAY_GRIP (R54, R55, R94, R95). -/
def Obligations.GrippedTakesOrStrays : Prop :=
  ∀ (s : State) (link : Fin 3) (id : Nat) (x y : Int) (c : Crane),
    let n := link.val + 1
    let closed := (s.hearing link).updCrane n (fun k => { k with tongs := .closed })
    let stray := fun (u : State) => u.updCrane n (fun k => { k with raise := { k.raise with strayGrip := true } })
    s.findCrane n = some c →
      if c.tongs = .closed then exec (.gripped link id x y) s = .next ((s.hearing link).raise (.protocol n)).settle
      else match (s.head n).filter (fun m => m.id == id && m.state == .toSource) with
        | none => exec (.gripped link id x y) s = .next (stray (closed.raise (.protocol n))).settle
        | some m =>
          if (m.source.bind s.locPos).any (fun p => decide ((x - p.1).natAbs ≤ s.settings.tolerance ∧
              (y - p.2).natAbs ≤ s.settings.tolerance)) = true then
            exec (.gripped link id x y) s =
              .next (closed.updMove id (fun k => { k with gripTaken := true, state := .gripped })).settle
          else exec (.gripped link id x y) s =
            .next ((stray (closed.updMove id (fun k => { k with gripTaken := true }))).holdMove m .strayGrip).settle

/-- LIFTED of a defined crane: with the tongs OPEN only PROTOCOL is raised. Taken by a head in GRIPPED it puts the coil on the
hook, makes the load LOADED, resets the lift peak, makes the source VACATED, writes the lift X, and sends the move into WEIGHING
with a CHECK placed; the table of moves and the coils change in nothing else (R54, R94, R96). At a cradle source the coil's plan
entry returns to WAITING, the phase stands, and a placement round still in progress is abandoned with its PLACE requests; a
PLACE of a round that has ended stays (R96, R167, R174). LIFTED by a head in PLACED or HELD, and LIFTED that no move takes (R55,
R94, R96). -/
def Obligations.LiftedPutsCoilOnHook : Prop :=
  (∀ (s : State) (link : Fin 3) (id : Nat) (x y : Int) (c : Crane),
     let n := link.val + 1
     s.findCrane n = some c →
       (c.tongs = .opened → exec (.lifted link id x y) s = .next ((s.hearing link).raise (.protocol n)).settle) ∧
       ∀ m coil, c.tongs = .closed → s.head n = some m → m.id = id → m.coil = some coil → m.state = .gripped →
         ∃ (v : State) (k : Crane), exec (.lifted link id x y) s = .next (v.startCheck m 0).settle ∧
           v.coils = s.coils.map (fun r => if r.id = coil then { r with loc := .hook n } else r) ∧
           v.moves = { s.moves with recs := s.moves.recs.map (fun r =>
             if r.id = id then { r with state := .weighing, hold := none, liftX := some x } else r) } ∧
           v.findCrane n = some k ∧ k.load = .loaded ∧ k.liftPeak = none ∧ k.tongs = .closed ∧ k.window = v.windowOf k ∧
           (∀ p, m.source = some (.place p) → v.findPlace p = (s.findPlace p).map (fun z => { z with state := .vacated id })) ∧
           (∀ b j x, m.source = some (.place (.cradle b j)) → s.findBay b = some x → ∃ y, v.findBay b = some y ∧
             y.plan = x.plan.map (fun e => if e.coil = coil ∧ e.cradle = j then { e with status := .waiting } else e) ∧
             y.phase = x.phase ∧ y.hold = x.hold ∧ y.round = none ∧
             (x.round = none → y.frontRequest = x.frontRequest ∧ y.rearRequest = x.rearRequest ∧ v.weigh = s.beginEvent.weigh) ∧
             (x.round.isSome = true → (∀ o, y.frontRequest = some o ∨ y.rearRequest = some o → o.purpose ≠ .place) ∧
               ((∀ r ∈ s.weigh.queue, r.requesters.count (.bay b) ≤ 1) → ∀ r ∈ v.weigh.queue, r.purpose = .place →
                 r.point = .front b ∨ r.point = .rear b → Requester.bay b ∉ r.requesters)) ∧
             ((∃ e ∈ x.plan, e.coil = coil ∧ e.cradle = j ∧ e.status ≠ .waiting) → b ≤ 4 →
               v.port.flags.getLsbD (Notice.bayChange b).index = true)) ∧
           ((∀ b j, m.source ≠ some (.place (.cradle b j))) → v.bays = s.bays ∧ v.weigh = s.beginEvent.weigh) ∧
           v.arbiter = s.arbiter ∧ v.points = s.points ∧ v.channels = s.channels ∧ v.settings = s.settings ∧
           (∀ j, j ≠ n → v.findCrane j = s.findCrane j)) ∧
  (∀ (s : State) (link : Fin 3) (id : Nat) (x y : Int) (c : Crane),
     let n := link.val + 1
     let loaded := (s.hearing link).updCrane n (fun k => { k with load := .loaded, liftPeak := none })
     s.findCrane n = some c → c.tongs = .closed →
       (∀ m, s.head n = some m → m.id = id → m.state = .placed →
         let st : MoveState := if ((s.moveCoil m).bind Coil.measured).isSome then .carrying else .weighing
         let w := loaded.updMove id (fun k => { k with liftX := some x, offTarget := false, state := st, hold := none })
         exec (.lifted link id x y) s = .next (if ((s.moveCoil m).bind Coil.measured).isSome then (w.refreshWindow n).settle
           else ((w.refreshWindow n).startCheck m 0).settle)) ∧
       (∀ m, s.head n = some m → m.id = id → m.state = .held → s.onHook m = true → c.load = .resting →
         exec (.lifted link id x y) s =
           .next ((loaded.updMove id (fun k => { k with liftX := some x })).refreshWindow n).settle) ∧
       ((∀ m, s.head n = some m → m.id = id → m.state ≠ .gripped ∧ m.state ≠ .placed ∧
           (m.state = .held → s.onHook m = false ∨ c.load ≠ .resting)) →
         exec (.lifted link id x y) s = .next
           (if s.coils.any (fun k => k.loc == .hook n && k.move.isNone) = true ∧ c.load = .resting then
             (((s.hearing link).raise (.protocol n)).updCrane n (fun k => { k with load := .loaded, liftPeak := none })).settle
            else ((s.hearing link).raise (.protocol n)).settle)))

/-- SET of a defined crane: with the tongs OPEN only PROTOCOL is raised. Taken in CARRYING, or by a HELD head whose coil is on a
LOADED hook, it makes the load RESTING, stops a running slack timer and copies the lift peak; in CARRYING the move enters PLACED
with the off-target mark judged by the tolerance, in HELD the mark is set. Any other SET raises PROTOCOL, and rests a loose
loaded coil (R54, R55, R97, R120). -/
def Obligations.SetDownRestsTheCoil : Prop :=
  ∀ (s : State) (link : Fin 3) (id : Nat) (x y : Int) (c : Crane),
    let n := link.val + 1
    let heard := s.hearing link
    let rested := heard.updCrane n (fun k => { k with load := .resting, slack := none })
    s.findCrane n = some c →
      if c.tongs = .opened then exec (.setDown link id x y) s = .next (heard.raise (.protocol n)).settle
      else match (s.head n).filter (fun m => m.id == id && (m.state == .carrying ||
          (m.state == .held && s.onHook m && c.load == .loaded))) with
        | some m =>
          let at_ : Option Pos := match m.target with | some (.place p) => s.placePos p | _ => none
          let on : Bool := at_.any (fun p => decide ((x - p.1).natAbs ≤ s.settings.tolerance ∧ (y - p.2).natAbs ≤ s.settings.tolerance))
          exec (.setDown link id x y) s = .next
            (if m.state = .carrying then
              ((rested.updMove id (fun k =>
                { k with liftPeak := c.liftPeak, state := .placed, hold := none, offTarget := !on })).refreshWindow n).settle
             else (rested.updMove id (fun k => { k with liftPeak := c.liftPeak, offTarget := true })).settle)
        | none => exec (.setDown link id x y) s = .next
            (if s.coils.any (fun k => k.loc == .hook n && k.move.isNone) = true ∧ c.load = .loaded then
              ((heard.raise (.protocol n)).updCrane n (fun k => { k with load := .resting, slack := none })).settle
             else (heard.raise (.protocol n)).settle)

/-- OPENED of a defined crane: with the tongs OPEN only PROTOCOL is raised; otherwise they become OPEN and STRAY_GRIP goes, and
where the head takes it the load becomes FREE. A head in GRIPPED returns to TO_SOURCE; a head that ends does so by the table of
R98, with its coil's location, the places and the load settled in the same event, a misfit judged on the floor or nest the coil
is set back on as the places then stand (R35); the move of a head HELD with an empty hook is unchanged (R54, R94, R95, R98). A
coil is set back on its source exactly where the source is a place or cradle still VACATED by the move and the event's position
lies within the position tolerance of it in X and Y; any other is left ASTRAY (R98). On a cradle set back on, the coil's plan
entry is PLACED, which may make the bay LOADED, the hold is PLAN_LIMIT where the prediction over the coils then counted exceeds
a limit of the truck and stands otherwise, and a placement round starts; what a round starts with is in
CheckResultDecidesTheMove (R155, R160, R167, R172, R174). OPENED that names no head of the crane, a head that expects no grab
event, or a HELD head whose coil is off a hook that holds another, raises PROTOCOL once the tongs are OPEN, and leaves the coil
of a hook that no live move names astray at the event's position, with the load FREE (R54, R55, R94). Model's choice: the HELD
head whose coil is set down and still gripped (notes/assumptions/19.md), and the front PLACE of a round before the rear
(notes/assumptions/79.md). -/
def Obligations.OpenedReleasesOrEnds : Prop :=
  (∀ (s : State) (m : Move) (x y : Int) (p : PlaceRef), s.setBack m (x, y) = some p ↔
     m.source = some (.place p) ∧ (∃ z, s.findPlace p = some z ∧ z.state = .vacated m.id) ∧
     ∃ q, s.placePos p = some q ∧ (x - q.1).natAbs ≤ s.settings.tolerance ∧ (y - q.2).natAbs ≤ s.settings.tolerance) ∧
  (∀ (s : State) (b j : Nat) (coil : Ident) (x : Bay), s.findBay b = some x →
     let plan := x.plan.map (fun e => if e.coil = coil ∧ e.cradle = j then { e with status := .placed } else e)
     let exceeded := x.Exceeds (s.counted x none)
     ∃ (v : State) (y : Bay), s.returnToCradle b j coil = v.startRound b ∧ v.findBay b = some y ∧
       y = { x with plan := plan, phase := y.phase, hold := y.hold, lamp := y.lamp } ∧
       y.phase = (if plan ≠ x.plan ∧ x.phase = .loading ∧ ∀ e ∈ plan, e.status = .placed then .loaded else x.phase) ∧
       (exceeded → y.hold = some .planLimit) ∧ (¬ exceeded → y.hold = x.hold) ∧
       (b ≤ 4 → exceeded ∨ plan ≠ x.plan → v.port.flags.getLsbD (Notice.bayChange b).index = true) ∧
       (∀ n, n ≠ b → v.findBay n = s.findBay n) ∧
       v = { s with bays := v.bays, port := { s.port with flags := v.port.flags } }) ∧
  (∀ (s : State) (link : Fin 3) (id : Nat) (x y : Int) (c : Crane),
     let n := link.val + 1
     let heard := s.hearing link
     let openOnly := heard.updCrane n (fun k => { k with tongs := .opened, raise := { k.raise with strayGrip := false } })
     let opened : State := { openOnly with moves := { s.moves with
       recs := s.moves.recs.map (fun m => if m.crane = n then { m with gripTaken := false } else m) } }
     let put := fun (u : State) (coil : Option Ident) (l : Loc) => match coil with
       | some k => u.updCoil k (fun r => { r with loc := l })
       | none => u
     let freed := fun (u : State) => u.updCrane n (fun k => { k with load := .free, slack := none })
     let ends := fun (m : Move) (l : Loc) (o : MoveOutcome) => ((freed (put opened m.coil l)).settlePlaces m o).finishMove m o false
     s.findCrane n = some c →
       if c.tongs = .opened then exec (.opened link id x y) s = .next (heard.raise (.protocol n)).settle
       else ∀ m, opened.head n = some m → m.id = id →
         (m.state = .gripped →
           exec (.opened link id x y) s = .next ((freed opened).updMove id (fun k => { k with state := .toSource })).settle) ∧
         (m.state = .weighing ∨ m.state = .carrying ∨ (m.state = .held ∧ opened.onHook m = true ∧ c.load = .loaded) →
           exec (.opened link id x y) s = .next (ends m (.astray x y) .dropped).settle) ∧
         (∀ p, m.state = .placed → m.offTarget = false → m.target = some (.place p) →
           exec (.opened link id x y) s = .next (ends m (.place p) .done).settle) ∧
         ((m.state = .placed ∧ (m.offTarget = true ∨ ∀ p, m.target ≠ some (.place p))) ∨
             (m.state = .held ∧ opened.onHook m = true ∧ c.load ≠ .loaded) →
           match opened.setBack m (x, y) with
           | none => exec (.opened link id x y) s = .next (ends m (.astray x y) .astray).settle
           | some p =>
             let settled := (freed (put opened m.coil (.place p))).settlePlaces m .returned
             let misfit := (match p with
               | .floor _ _ => (settled.moveCoil m).any (fun k => !settled.fits none p k)
               | .nest _ _ => (settled.moveCoil m).any (fun k => !settled.fits none p k)
               | _ => false)
             let back := (match p, m.coil with | .cradle b j, some k => settled.returnToCradle b j k | _, _ => settled)
             exec (.opened link id x y) s = .next (back.finishMove m .returned misfit).settle) ∧
         (m.state = .held → opened.onHook m = false → s.hookCoil n = none →
           exec (.opened link id x y) s = .next (freed opened).settle)) ∧
  (∀ (s : State) (link : Fin 3) (id : Nat) (x y : Int) (c : Crane),
     let n := link.val + 1
     let opened := (s.hearing link).openTongs n
     s.findCrane n = some c → c.tongs = .closed →
       (∀ m, opened.namedHead n id = some m → m.state ≠ .gripped ∧ m.state ≠ .weighing ∧ m.state ≠ .carrying ∧
         m.state ≠ .placed ∧ (m.state = .held → opened.onHook m = false ∧ (s.hookCoil n).isSome = true)) →
       exec (.opened link id x y) s = .next (match s.coils.find? (fun k => k.loc == .hook n && k.move.isNone) with
         | none => (opened.raise (.protocol n)).settle
         | some k =>
           if c.load = .free then (opened.raise (.protocol n)).settle
           else (((opened.raise (.protocol n)).updCoil k.id (fun r => { r with loc := .astray x y })).updCrane n
             (fun r => { r with load := .free, slack := none })).settle))

/-- A dropped frame of a crane link adds one to its count, which stops at 65,535; an unreadable one also raises PROTOCOL of a
defined crane; nothing else changes; a grab event of a crane with no record is dropped and counted (R44, R55). A link that has
sent its message sends the one that has waited longest, with the next sequence number of 0 to 255; a link that is sending none
is unchanged (R56, R177). A message placed on a link that is sending none is sent at once; on a link that is sending it waits
behind the others, but a WINDOW takes the place of a WINDOW that still waits, so that ORDER and CANCEL are never replaced (R56).
Model's choice: when a message leaves and when it waits (notes/assumptions/6.md). -/
def Obligations.CraneLinkCountsAndSendsInOrder : Prop :=
  ((∀ (s : State) (link : Fin 3) (cause : CraneDrop),
     let u := s.updLink (link.val + 1) (fun l =>
       { l with partialFrame := [], dropped := if l.dropped < 65535 then l.dropped + 1 else l.dropped })
     exec (.craneFrameDropped link cause) s = .next
       (if cause = .unreadable ∧ (s.findCrane (link.val + 1)).isSome = true then u.raise (.protocol (link.val + 1)) else u)) ∧
   (∀ (s : State) (link : Fin 3), exec (.linkSend link) s = .next (s.updLink (link.val + 1) (fun l =>
     match l.sending, l.waiting with
     | none, _ => l
     | some _, [] => { l with sending := none }
     | some _, m :: rest =>
       { l with sending := some (l.nextSeq, m), waiting := rest, nextSeq := (l.nextSeq + 1) % 256 }))) ∧
   (∀ (s : State) (link : Fin 3) (id : Nat) (x y : Int) (i : Instr), s.findCrane (link.val + 1) = none →
     (i = .gripped link id x y ∨ i = .lifted link id x y ∨ i = .setDown link id x y ∨ i = .opened link id x y) →
       exec i s = .next (s.updLink (link.val + 1) (fun l =>
         { l with partialFrame := [], dropped := if l.dropped < 65535 then l.dropped + 1 else l.dropped })))) ∧
  ((∀ (l : Link) (m : Message), l.sending = none → l.waiting = [] →
     l.place m = { l with sending := some (l.nextSeq, m), nextSeq := (l.nextSeq + 1) % 256 }) ∧
   ∀ (l : Link) (m : Message) (sent : Nat × Message), l.sending = some sent →
     (l.place m).sending = some sent ∧
     (∀ (a b : List Message) (w w' : Window), m = .window w → l.waiting = a ++ .window w' :: b →
       (∀ k ∈ a ++ b, ∀ v, k ≠ .window v) → (l.place m).waiting = a ++ .window w :: b) ∧
     ((∀ w, m ≠ .window w) ∨ (∀ k ∈ l.waiting, ∀ v, k ≠ .window v) → (l.place m).waiting = l.waiting ++ [m]))

/-- In a table whose zones rise from 0 to the runway's length, a position lies in the zone whose start it has reached and whose
end it has not, the runway's end in the last zone (R63); a footprint is the run of the zones that it overlaps (R47). A bridge
centre lies inside the window of a crane exactly when its footprint lies between the start of the west zone and the end of the
east zone of the owned run, and, while the head is in WEIGHING or HELD with its coil on the hook, it lies within the position
tolerance of the lift X; a crane with no owned run has an empty window (R48). Model's choice: no narrowing where the lift X is
absent (notes/assumptions/7.md). -/
def Obligations.WindowKeepsFootprintInsideRun : Prop :=
  (∀ t : ZoneTable, (t.zones.map Zone.start).Pairwise (· < ·) → t.zones.head?.map Zone.start = some 0 →
     (∀ z ∈ t.zones, z.start < t.length) →
     let stop := fun (z : Nat) => ((((t.zones[z]?).map Zone.start).getD t.length : Nat) : Int)
     (∀ (x : Int) (z : Nat), t.zoneAt x = some z ↔ ∃ rec, t.zone? z = some rec ∧ (rec.start : Int) ≤ x ∧
       (x < stop z ∨ (x = t.length ∧ z = t.zones.length))) ∧
     ∀ (e : Nat) (x : Int) (z : Nat), 0 < e →
       (inRun (t.footprint e x) z = true ↔ ∃ rec, t.zone? z = some rec ∧ (rec.start : Int) < x + e ∧ x - e < stop z)) ∧
  ∀ (s : State) (c : Crane) (x : Int),
    (c.run = none → s.windowOf c = none) ∧
    ∀ t w v, s.arbiter.table = some t → c.run = some (w, v) →
      (Window.holds (s.windowOf c) x = true ↔
        t.startOf w ≤ x - c.halfLength ∧ x + c.halfLength ≤ t.stopOf v ∧
        ∀ m l, s.head c.num = some m → (m.state = .weighing ∨ (m.state = .held ∧ s.onHook m = true)) → m.liftX = some l →
          (x - l).natAbs ≤ s.settings.tolerance)

/-! ### Runway zones (chapter 4) -/

/-- SHUT makes an OPEN zone SHUT where it has no owner and SHUTTING where it has one, leaves a SHUTTING or SHUT zone as it is,
and answers with the zone record; nothing else changes (R66). OPEN returns a zone to OPEN with its owner unchanged, makes an
examination follow where its state changes, and answers with the zone's record as it then stands (R67). -/
def Obligations.ShutAndOpenChangeZoneState : Prop :=
  (∀ (s : State) (q z : Nat), s.fresh (.shutZone q z) →
     let i := Instr.shutZone q z
     if z < 1 ∨ 32 < z then Refused i s .outOfRange
     else match s.arbiter.table with
       | none => Refused i s .unknown
       | some t => match t.zone? z with
         | none => Refused i s .unknown
         | some rec =>
           let rec' : Zone := match rec.state, rec.owner with
             | .open, none => { rec with state := .shut }
             | .open, some _ => { rec with state := .shutting }
             | _, _ => rec
           let t' : ZoneTable := { t with zones := t.zones.set (z - 1) rec' }
           Answers i s { s.taking with arbiter := { s.arbiter with table := some t' } }
             (.zoneRecord { num := z, start := rec.start, stop := ((t.zones[z]?).map Zone.start).getD t.length, zone := rec' })) ∧
  (∀ (s : State) (q z : Nat), s.fresh (.openZone q z) →
     let i := Instr.openZone q z
     if z < 1 ∨ 32 < z then Refused i s .outOfRange
     else match s.arbiter.table with
       | none => Refused i s .unknown
       | some t => match t.zone? z with
         | none => Refused i s .unknown
         | some rec =>
           let t' : ZoneTable := { t with zones := t.zones.set (z - 1) { rec with state := .open } }
           let u : State := { s.acting with arbiter := { s.arbiter with
             table := some t', examine := s.arbiter.examine || decide (rec.state ≠ .open) } }
           ∃ v ∈ u.settle.zoneViews, v.num = z ∧ Settles i s u (.zoneRecord v))

/-- An entry has no stop exactly when its crane is TRACKING, its run computed, and every zone of the run OPEN, owned by no other
crane, in the order of cranes, and, for a carried coil, of a bay that is EMPTY or SECURED (R72); the examination grants an entry
exactly where it has no stop. A grant gives the crane the run of its entry and no other zone, takes the entry from the list,
makes the crane the last one granted, and moves the move into the state of R93; one that enters WEIGHING takes the last X as its
lift X and places a CHECK with retry count 0 on its hoist, and one that enters PLACED has its off-target mark judged at the last
position (R73, R93, R101). The link takes the WINDOW of the grant where the window changes, and after it the ORDER, which
carries the window the crane then holds, as its source the last position for a TRAVEL and for a coil on the hook, else that of
the source, and as its target the position of the target place, or the X of a TRAVEL with the last Y; what waited on the link
stays (R56, R93). The run of a request is the smallest run holding the zones that the crane's footprint overlaps at its last X,
at the source X unless the source is a hook, and at the target X (R47, R70). A pass computes the runs of TRACKING cranes again,
judges their entries in the policy order, and then seeks conflicts and yields; passes follow until one grants nothing, at most
four (R70, R74, R75). Two entries that wait on each other: the one with the higher arrival number leaves the list, its move is
HELD (CROSSING) and CONFLICT is raised, with no zone changed; without such a pair nothing changes (R79). An entry blocked only
by an idle crane makes that crane yield: a TRAVEL clear of the run becomes its head with an urgent entry, unless the crane is
clear already, the table is full, or the target leaves the runway, which is a conflict (R80, R81, R91). Model's choice: the
policy order is fixed as the judging of a pass starts (notes/assumptions/52.md). -/
def Obligations.GrantsNeedEveryZoneAndGiveTheRun : Prop :=
  let meets := fun (s : State) (t : ZoneTable) (e : ZoneEntry) (yielded : Option Nat) (z : Nat) =>
    ∃ rec, t.zone? z = some rec ∧ rec.state = .open ∧
      (∀ k, rec.owner = some k → k = e.crane ∨ yielded = some k) ∧
      (∀ y other k, t.zone? y = some other → other.owner = some k → yielded ≠ some k →
        (k < e.crane → y < z) ∧ (e.crane < k → z < y)) ∧
      (∀ b x, rec.kind = .bay b → e.carries = true → s.findBay b = some x → x.presence = .empty ∨ x.security = .secured)
  let waits := fun (s : State) (e : ZoneEntry) (n : Nat) => ∃ t r z rec, s.arbiter.table = some t ∧ e.run = some r ∧ r.1 ≤ z ∧
    z ≤ r.2 ∧ t.zone? z = some rec ∧ rec.owner = some n
  let inOrder := fun (s : State) (l order : List ZoneEntry) =>
    order.Perm (l.filter (fun e => (s.findCrane e.crane).any (fun c => c.tracking == .tracking))) ∧
    order.Pairwise (fun a b => (b.urgent = true → a.urgent = true) ∧ (a.urgent = b.urgent →
      match s.arbiter.policy with
      | .age => a.arrival ≤ b.arrival
      | .rotate => (a.crane + 2 - s.arbiter.lastGranted) % 3 ≤ (b.crane + 2 - s.arbiter.lastGranted) % 3))
  (∀ (s : State) (e : ZoneEntry), s.entryStop e = none ↔
     (∃ c, s.findCrane e.crane = some c ∧ c.tracking = .tracking) ∧
     ∃ t r, s.arbiter.table = some t ∧ e.run = some r ∧ ∀ z, r.1 ≤ z → z ≤ r.2 → meets s t e none z) ∧
  (∀ (s : State) (granted : Bool) (e : ZoneEntry),
     (s.entryStop e = none → ∃ r, e.run = some r ∧ State.judgeEntry (s, granted) e = (s.grant e r, true)) ∧
     (s.entryStop e ≠ none → State.judgeEntry (s, granted) e = (s, granted))) ∧
  (∀ (s : State) (e : ZoneEntry) (r : Run) (t : ZoneTable) (c : Crane) (m : Move) (l : Link),
     s.arbiter.table = some t → s.findCrane e.crane = some c → s.findMove e.move = some m → m.crane = e.crane →
     nth? s.links e.crane = some l →
       let v := s.grant e r
       let last := s.lastPosOf e.crane
       v.arbiter.table = some (t.assign e.crane (some r)) ∧ v.arbiter.lastGranted = e.crane ∧
       v.arbiter.requests = s.arbiter.requests.filter (fun x => x.crane != e.crane) ∧
       v.coils = s.coils ∧ v.store = s.store ∧ v.bays = s.bays ∧
       (∃ k, v.findCrane e.crane = some k ∧ k.run = some r ∧ k.window = v.windowOf k ∧
         let told := if k.window = c.window then l else l.place (.window k.window)
         let source : Pos := if m.kind = .travel ∨ s.onHook m = true then last else (m.source.bind s.locPos).getD last
         let target : Pos := match m.target with
           | some (.place p) => (s.placePos p).getD last
           | some (.runway X) => (X, last.2)
           | none => last
         nth? v.links e.crane = some (told.place (.order m.id m.kind source target k.window))) ∧
       ∃ m', v.findMove e.move = some m' ∧ m'.target = m.target ∧ m'.state =
         (if m.kind = .travel then .travelling
          else if s.onHook m = false then .toSource
          else if c.load = .resting then .placed
          else if ((s.moveCoil m).bind Coil.measured).isSome = true then .carrying
          else .weighing) ∧
         m'.liftX = (if m'.state = .weighing then some last.1 else m.liftX) ∧
         (m'.state = .placed → (m'.offTarget = false ↔ ∃ p q, m.target = some (.place p) ∧ s.placePos p = some q ∧
           (last.1 - q.1).natAbs ≤ s.settings.tolerance ∧ (last.2 - q.2).natAbs ≤ s.settings.tolerance)) ∧
         (m'.state ≠ .placed → m'.offTarget = m.offTarget) ∧
         ∃ u : State, u = { v with weigh := s.weigh } ∧
           v = if m'.state = .weighing then u.placeRequest (.hoist e.crane) .check (.move m.id) 0 0 else u) ∧
  (∀ (s : State) (t : ZoneTable) (c : Crane) (m : Move),
     let reached := fun (X : Int) => (∃ y, c.lastPos = some (X, y)) ∨ (∃ y, m.source = some (.astray X y)) ∨
       m.target = some (.runway X) ∨
       ∃ p y, (m.source = some (.place p) ∨ m.target = some (.place p)) ∧ s.placePos p = some (X, y)
     let stop := fun (z : Nat) => ((((t.zones[z]?).map Zone.start).getD t.length : Nat) : Int)
     let foot := fun (z : Nat) => ∃ rec X, t.zone? z = some rec ∧ reached X ∧ (rec.start : Int) < X + c.halfLength ∧
       X - c.halfLength < stop z
     (∀ z, inRun (s.runFor t c m) z = true ↔ ∃ a b, foot a ∧ foot b ∧ a ≤ z ∧ z ≤ b) ∧
     (s.runFor t c m = none ↔ ∀ z, ¬ foot z)) ∧
  ((∀ s : State, ∃ (u : State) (order : List ZoneEntry),
     u = { s with arbiter := { s.arbiter with requests := u.arbiter.requests } } ∧
     u.arbiter.requests = s.arbiter.requests.map (fun e => match s.arbiter.table, s.findCrane e.crane, s.findMove e.move with
       | some t, some c, some m => if c.tracking = .tracking then { e with run := s.runFor t c m } else e
       | _, _, _ => e) ∧
     inOrder u u.arbiter.requests order ∧
     let judged := order.foldl State.judgeEntry (u, false)
     s.pass = (judged.1.conflicts.yields, judged.2)) ∧
   ∀ s : State,
     let after := fun (k : Nat) => Nat.iterate (fun (u : State) => u.pass.1) k { s with arbiter := { s.arbiter with examine := false } }
     ∃ k < 4, s.examination = after (k + 1) ∧ (∀ j < k, (after j).pass.2 = true) ∧ (k < 3 → (after k).pass.2 = false)) ∧
  (∀ s : State, s.conflicts = ((s.conflictPair (1, 2)).conflictPair (1, 3)).conflictPair (2, 3)) ∧
  (∀ (s : State) (i j : Nat), 1 ≤ i → i ≤ 3 → 1 ≤ j → j ≤ 3 →
     let entry := fun (n : Nat) (e : ZoneEntry) => s.arbiter.requests.find? (fun e => e.crane == n) = some e
     ((∀ a b, entry i a → entry j b → ¬ (waits s a j ∧ waits s b i)) → s.conflictPair (i, j) = s) ∧
     ∀ a b m, entry i a → entry j b → waits s a j → waits s b i →
       let e := if b.arrival < a.arrival then a else b
       s.findMove e.move = some m → m.crane = e.crane → (∀ x ∈ s.arbiter.requests, x.move = e.move → x.crane = e.crane) →
         let v := s.conflictPair (i, j)
         v.arbiter = { s.arbiter with requests := s.arbiter.requests.filter (fun x => x.crane != e.crane) } ∧
         v.findMove e.move = some { m with state := .held, hold := some .crossing } ∧
         v.port.flags.getLsbD (Notice.conflict e.crane).index = true ∧
         v.port.flags.getLsbD (Notice.moveHeld e.crane).index = true ∧
         v.coils = s.coils ∧ v.store = s.store ∧ v.bays = s.bays) ∧
  ((∀ s : State, (s.settings.autoYield = false → s.yields = s) ∧
     (s.settings.autoYield = true → ∃ order, inOrder s s.arbiter.requests order ∧ s.yields = order.foldl State.seekYield s)) ∧
   (∀ (s : State) (e : ZoneEntry), s.seekYield e = [1, 2, 3].foldl (fun (u : State) b =>
     if u.arbiter.requests.any (fun x => x.move == e.move) = true then u.seekYieldOf e b else u) s) ∧
   ∀ (s : State) (e : ZoneEntry) (t : ZoneTable) (r : Run) (b : Nat) (c : Crane),
     s.arbiter.table = some t → e.run = some r → s.findCrane b = some c →
       let v := s.seekYieldOf e b
       let only := b ≠ e.crane ∧ waits s e b ∧ ∀ z, r.1 ≤ z → z ≤ r.2 → meets s t e (some b) z
       let idle := c.tracking = .tracking ∧ s.queue b = []
       let X : Int := if e.crane < b then t.stopOf r.2 + c.halfLength else t.startOf r.1 - c.halfLength
       let clear : Prop := if e.crane < b then X ≤ (s.lastPosOf b).1 else (s.lastPosOf b).1 ≤ X
       let off : Prop := if e.crane < b then (t.length : Int) < X + c.halfLength else X - c.halfLength < 0
       (¬ (only ∧ idle) ∨ clear ∨ (¬ off ∧ 24 ≤ s.moves.recs.length) → v = s) ∧
       (only → idle → ¬ clear → off → v = s.crossing e) ∧
       (only → idle → ¬ clear → ¬ off → s.moves.recs.length < 24 →
         (∃ m, v.queue b = [m] ∧ m.id = s.nextMoveId ∧ m.kind = .travel ∧ m.origin = .yield ∧ m.coil = none ∧
           m.target = some (.runway X) ∧ m.state = .zones ∧
           ∃ e', v.arbiter.requests.filter (fun x => x.crane == b) = [e'] ∧ e'.move = m.id ∧ e'.urgent = true ∧
             e'.carries = false) ∧
         v.arbiter.examine = true ∧ v.arbiter.table = s.arbiter.table ∧ v.coils = s.coils ∧
         ∀ n, n ≠ b → v.queue n = s.queue n))

/-! ### Moves (chapter 5) -/

/-- The identifier of a new move is the first after the last assigned, counting 1 to 255 and round to 1, that no record in the
table holds (R84). A move that joins a queue at the head, second or at the tail stands there, and every other live move of every
crane keeps its order; a displaced head has its pending mark set and is PENDING, or HELD as it was (R86, R87). A displaced head
in ZONES loses its zone entry; of a TRACKING crane the owned run shrinks to those of its zones that the footprint at its last X
overlaps, a zone given up losing its owner, from SHUTTING to SHUT, and an examination follows; of any other crane run and zones
stand; a head in TO_SOURCE or TRAVELLING has a CANCEL placed on the link, and then the new move goes for runway (R77, R87).
Model's choice: the CANCEL before the WINDOW (notes/assumptions/51.md). -/
def Obligations.NewMoveTakesIdentifierAndStanding : Prop :=
  (∀ s : State, s.moves.recs.length ≤ 24 →
     ∃ k < 255, s.nextMoveId = (s.moves.lastId + k) % 255 + 1 ∧ (∀ m ∈ s.moves.recs, m.id ≠ s.nextMoveId) ∧
       ∀ j < k, ∃ m ∈ s.moves.recs, m.id = (s.moves.lastId + j) % 255 + 1) ∧
  (∀ (s : State) (m : Move) (st : Standing), s.Keyed → (∀ x ∈ s.moves.recs, x.id ≠ m.id) → m.state = .queued →
     let v := s.joinQueue m st
     (v.queue m.crane).map Move.id =
       (match st, (s.queue m.crane).map Move.id with
         | .head, l => m.id :: l
         | .second, h :: rest => h :: m.id :: rest
         | .second, [] => [m.id]
         | .tail, l => l ++ [m.id]) ∧
     (∀ n, n ≠ m.crane → (v.queue n).map Move.id = (s.queue n).map Move.id) ∧
     (∀ h, st = .head → s.head m.crane = some h →
       (∃ h', v.findMove h.id = some h' ∧ h'.pendingMark = true ∧ h'.state = (if h.state = .held then .held else .pending) ∧
         h'.target = h.target ∧ h'.source = h.source) ∧
       v = (({ s with moves := { recs := m :: s.moves.recs, lastId := m.id } } : State).displace h).promote m.crane)) ∧
  ∀ (s : State) (h : Move),
    let v := s.displace h
    v = { s with
      moves := { s.moves with recs := s.moves.recs.map (fun r => if r.id = h.id then
        { r with pendingMark := true, state := if r.state = .held then .held else .pending } else r) }
      cranes := v.cranes, links := v.links
      arbiter := { s.arbiter with
        table := v.arbiter.table, examine := v.arbiter.examine
        requests := if h.state = .zones then s.arbiter.requests.filter (fun e => e.move != h.id) else s.arbiter.requests } } ∧
    (∀ n l, nth? s.links n = some l → nth? v.links n = some
      (if n = h.crane ∧ (h.state = .toSource ∨ h.state = .travelling) then l.place (.cancel h.id) else l)) ∧
    (∀ n, n ≠ h.crane → v.findCrane n = s.findCrane n) ∧
    ∀ c t, s.findCrane h.crane = some c → s.arbiter.table = some t →
      (c.tracking ≠ .tracking → v.cranes = s.cranes ∧ v.arbiter.table = s.arbiter.table ∧ v.arbiter.examine = s.arbiter.examine) ∧
      (c.tracking = .tracking → ∃ (run : Option Run) (t' : ZoneTable), v.findCrane h.crane = some { c with run := run } ∧
        (∀ z, inRun run z = true ↔ inRun c.run z = true ∧ ∃ p, c.lastPos = some p ∧
          inRun (t.footprint c.halfLength p.1) z = true) ∧
        v.arbiter.table = some t' ∧ t'.length = t.length ∧ t'.zones.length = t.zones.length ∧
        (∀ z rec, t.zone? z = some rec → t'.zone? z = some
          (if inRun run z = true then { rec with owner := some h.crane }
           else if rec.owner = some h.crane then
             { rec with owner := none, state := if rec.state = .shutting then .shut else rec.state }
           else rec)) ∧
        (v.arbiter.examine = true ↔ s.arbiter.examine = true ∨
          ∃ z rec, t.zone? z = some rec ∧ rec.owner = some h.crane ∧ inRun run z = false))

/-- MOVE by the checks of R88 in their order. A source at a floor position with a nest above it not FREE answers TRAPPED, one on
a cradle BAY_STATE while the bay is DISMISSED and PLAN_ORDER where R170 does not let the coil leave (R88 step 11). A cradle
target answers BAY_STATE, ON_HOLD, COIL_HELD, UNKNOWN above the truck's cradles, PLAN_ORDER where R170 does not let the coil
come, PLACE_BUSY where it is not FREE and unblocked, and AXLE_LIMIT where the counted coils with this one there exceed a limit;
any other place PLACE_BUSY and UNFIT; AUTO takes the first place the slot finder offers, or answers NO_POSITION or NO_PLACE
(R37, R38, R88 step 12, R172). An accepted MOVE makes the record of R89, names it in the coil's record, reserves source and
target, and joins the crane's queue at the place of R86: an urgent one as head where the hook of the head is empty, that is in
ZONES, TO_SOURCE, TRAVELLING or HELD with the tongs OPEN and the load FREE, and else directly behind it. PARK by the checks of
R90 in their order; an accepted one makes a TRAVEL to the X that joins the tail of the queue. The answer of both carries
identifier, target and queue place as the event leaves them: 1 for the head, counting towards the tail, 0 for an ended move
(R89, R90). Model's choice: names out of range or not defined, and what the slot finder takes as the source
(notes/assumptions/29.md, notes/assumptions/18.md). -/
def Obligations.MoveAndParkJoinTheirQueues : Prop :=
  (∀ (s : State) (n : Nat) (h : Move) (k : Crane), s.head n = some h → s.findCrane n = some k →
    (s.headHookEmpty n = true ↔ (h.state = .zones ∨ h.state = .toSource ∨ h.state = .travelling ∨ h.state = .held) ∧
      k.tongs = .opened ∧ k.load = .free)) ∧
  (∀ (s : State) (c : Coil), match c.loc with
    | .place (.floor r g) =>
      let nested := ∃ u x, (u + 1 = g ∨ u = g) ∧ s.findPlace (.nest r u) = some x ∧ x.state ≠ .free
      (nested → s.sourceRefusal c = some .trapped) ∧ (¬ nested → s.sourceRefusal c = none)
    | .place (.cradle b _) => ∀ x, s.findBay b = some x →
      (x.phase = .dismissed → s.sourceRefusal c = some .bayState) ∧
      (x.phase ≠ .dismissed → ¬ s.MayUnload x b c.id → s.sourceRefusal c = some .planOrder) ∧
      (x.phase ≠ .dismissed → s.MayUnload x b c.id → s.sourceRefusal c = none)
    | _ => s.sourceRefusal c = none) ∧
  (∀ (s : State) (source : Option PlaceRef) (c : Coil),
    let answers := fun (t : MoveTarget) (st : Status) => s.chooseTarget source c t = .error st
    let chooses := fun (t : MoveTarget) (p : PlaceRef) (auto : Bool) => s.chooseTarget source c t = .ok (p, auto)
    let open_ := fun (p : PlaceRef) => ∃ z, s.findPlace p = some z ∧ z.state = .free ∧ z.blocked = false
    (∀ b k, match s.findBay b with
      | none => answers (.named (.cradle b k)) .unknown
      | some x =>
        if x.phase ≠ .ready ∧ x.phase ≠ .loading ∧ x.phase ≠ .loaded then answers (.named (.cradle b k)) .bayState
        else if x.hold ≠ none then answers (.named (.cradle b k)) .onHold
        else if c.hold = true then answers (.named (.cradle b k)) .coilHeld
        else match x.truck.bind (fun t => nth? t.cradles k) with
          | none => answers (.named (.cradle b k)) .unknown
          | some d =>
            let above := x.Exceeds (s.counted x (some c.id) ++ [{ weight := c.reference, dist := d.dist }])
            (¬ s.MayLoad x b k c.id → answers (.named (.cradle b k)) .planOrder) ∧
            (s.MayLoad x b k c.id →
              (¬ open_ (.cradle b k) → answers (.named (.cradle b k)) .placeBusy) ∧
              (open_ (.cradle b k) → above → answers (.named (.cradle b k)) .axleLimit) ∧
              (open_ (.cradle b k) → ¬ above → chooses (.named (.cradle b k)) (.cradle b k) false))) ∧
    (∀ p, (∀ b k, p ≠ .cradle b k) →
      (¬ open_ p → answers (.named p) .placeBusy) ∧
      (open_ p → s.fits source p c = false → answers (.named p) .unfit) ∧
      (open_ p → s.fits source p c = true → chooses (.named p) p false)) ∧
    (match s.locPos c.loc with
      | none => answers .auto .noPosition
      | some at_ => ∃ all, s.Offers source c at_.1 all ∧ (match all.head? with
        | none => answers .auto .noPlace
        | some (p, _) => chooses .auto p true))) ∧
  (∀ (s : State) (m : Move), (m.state = .ended → s.queuePlace m = 0) ∧
    (s.Keyed → ∀ before behind, s.queue m.crane = before ++ m :: behind → s.queuePlace m = before.length + 1)) ∧
  (∀ (s : State) (q : Nat) (id : Ident) (target : MoveTarget) (n : Nat) (urgent : Option Bool),
     let i := Instr.move q id target n urgent
     let u := urgent.getD false
     let live := s.queue n
     s.fresh i →
     if s.port.mode = .setup then Refused i s .wrongMode
     else if identOk id = false then Refused i s .badIdent
     else match s.findCoil id with
       | none => Refused i s .unknown
       | some c =>
         if n < 1 ∨ 3 < n ∨ (match target with
             | .named (.cradle b k) => decide (b < 1 ∨ 4 < b ∨ k < 1 ∨ 6 < k) | _ => false) = true then
           Refused i s .outOfRange
         else if (s.findCrane n).isNone = true ∨ (match target with
             | .named (.cradle b _) => (s.findBay b).isNone | .named p => (s.findPlace p).isNone | .auto => false) = true then
           Refused i s .unknown
         else if c.move.isSome = true then Refused i s .busy
         else if (match c.loc with | .hook k => k != n | _ => false) = true then Refused i s .wrongCrane
         else if s.coils.any (fun k => k.loc == .hook n && k.move.isNone && k.id != id) = true then Refused i s .onHook
         else if u = true ∧ live.any Move.urgent = true then Refused i s .urgentBusy
         else if 8 ≤ live.length then Refused i s .queueFull
         else if 24 ≤ s.moves.recs.length then Refused i s .tableFull
         else match s.sourceRefusal c, s.chooseTarget c.loc.place? c target with
           | some st, _ => Refused i s st
           | none, .error st => Refused i s st
           | none, .ok (p, auto) =>
             let m : Move :=
               { id := s.nextMoveId, kind := .carry, origin := .host, crane := n, urgent := u, coil := some id
                 source := some c.loc, target := some (.place p), autoTarget := auto, state := .queued, hold := none
                 pendingMark := false, offTarget := false, liftX := none, liftPeak := none, outcome := none, misfit := false
                 gripTaken := false }
             let v := s.acting.updCoil id (fun k => { k with move := some m.id })
             let v := (match c.loc with | .place src => v.setPlace src (.outgoing m.id id) | _ => v).reserveTarget m.id id p
             let st : Standing := if live = [] then .head else if u = false then .tail
               else if s.headHookEmpty n = true then .head else .second
             let t := (v.joinQueue m st).settle
             Answers i s t (.accepted m.id (some p) ((t.findMove m.id).elim 0 t.queuePlace))) ∧
  (∀ (s : State) (q n x : Nat),
     let i := Instr.park q n x
     s.fresh i →
     if s.port.mode = .setup then Refused i s .wrongMode
     else if n < 1 ∨ 3 < n then Refused i s .outOfRange
     else match s.findCrane n with
       | none => Refused i s .unknown
       | some c =>
         if s.arbiter.table.any (fun t => decide (c.halfLength ≤ x ∧ x + c.halfLength ≤ t.length)) = true then
           if 8 ≤ (s.queue n).length then Refused i s .queueFull
           else if 24 ≤ s.moves.recs.length then Refused i s .tableFull
           else
             let m : Move :=
               { id := s.nextMoveId, kind := .travel, origin := .host, crane := n, urgent := false, coil := none, source := none
                 target := some (.runway x), autoTarget := false, state := .queued, hold := none, pendingMark := false
                 offTarget := false, liftX := none, liftPeak := none, outcome := none, misfit := false, gripTaken := false }
             let t := (s.acting.joinQueue m (if s.queue n = [] then .head else .tail)).settle
             Answers i s t (.accepted m.id none ((t.findMove m.id).elim 0 t.queuePlace))
         else Refused i s .outOfRange)

/-- A head in QUEUED or PENDING goes for runway: it enters ZONES with a new zone entry and an examination follows, or, where its
target no longer passes, it is HELD with its target withdrawn and has no entry (R69, R92). A target passes where the coil fits
its place; a cradle passes while its bay is READY, LOADING or LOADED and not on hold and the counted coils with this one there
exceed no limit, is over an axle limit where they do, and is unfit else; a TRAVEL always passes, and a target that has been
withdrawn is unfit (R92, R102, R172). A hold writes HELD and its reason, raises MOVE_HELD, takes the zone entry of the move from
the list and its CHECK from the weigh queue, and leaves the crane with the window of R48; coils, places and bays stand (R104). A
new entry that finds 65,535 given first has the entries numbered 1 upward again in the order of their arrival (R69). -/
def Obligations.HeadGoesForRunway : Prop :=
  (∀ (s : State) (m : Move),
    (∀ X, m.target = some (.runway X) → s.judgeTarget m = .pass) ∧ (m.target = none → s.judgeTarget m = .unfit) ∧
    (∀ c b k x, m.target = some (.place (.cradle b k)) → s.moveCoil m = some c → s.findBay b = some x →
      let l := s.counted x (some c.id) ++ ((x.truck.bind (fun t => nth? t.cradles k)).map (fun d =>
        ({ weight := c.reference, dist := d.dist } : Counted))).toList
      let stands := (x.phase = .ready ∨ x.phase = .loading ∨ x.phase = .loaded) ∧ x.hold = none
      (¬ stands → s.judgeTarget m = .unfit) ∧ (stands → x.Exceeds l → s.judgeTarget m = .axle) ∧
      (stands → ¬ x.Exceeds l → s.judgeTarget m = .pass)) ∧
    (∀ c p, m.target = some (.place p) → s.moveCoil m = some c → (∀ b k, p ≠ .cradle b k) →
      s.judgeTarget m = (if s.fits none p c = true then .pass else .unfit))) ∧
  (∀ (s : State) (m : Move) (reason : HoldReason),
    let v := s.holdMove m reason
    let asks := fun (r : WeighRequest) => r.purpose = .check ∧ Requester.move m.id ∈ r.requesters
    v = { s with
      moves := { s.moves with recs := s.moves.recs.map (fun k =>
        if k.id = m.id then { k with state := .held, hold := some reason } else k) }
      arbiter := { s.arbiter with requests := s.arbiter.requests.filter (fun e => e.move != m.id) }
      cranes := v.cranes, links := v.links, weigh := v.weigh, port := { s.port with flags := v.port.flags } } ∧
    (m.crane ≤ 3 → v.port.flags.getLsbD (Notice.moveHeld m.crane).index = true) ∧
    (∀ k, v.findCrane m.crane = some k → k.window = v.windowOf k) ∧ (∀ n, n ≠ m.crane → v.findCrane n = s.findCrane n) ∧
    ((∀ r ∈ s.weigh.queue, ¬ asks r) → v.weigh = s.weigh) ∧
    ((∀ r ∈ s.weigh.queue, r.requesters.count (.move m.id) ≤ 1) → ∀ r ∈ v.weigh.queue, ¬ asks r)) ∧
  (∀ a : Arbiter, a.requests.Pairwise (fun x y => x.arrival ≠ y.arrival) →
    let v := a.readyArrival
    (a.nextArrival ≤ 65535 → v = a) ∧
    (65535 < a.nextArrival → v = { a with requests := v.requests, nextArrival := a.requests.length + 1 } ∧
      (v.requests.map ZoneEntry.arrival).Perm ((List.range a.requests.length).map (· + 1)) ∧
      v.requests.map (fun e => { e with arrival := 0 }) = a.requests.map (fun e => { e with arrival := 0 }) ∧
      ∀ (i j : Nat) (x y x' y' : ZoneEntry), a.requests[i]? = some x → a.requests[j]? = some y → v.requests[i]? = some x' →
        v.requests[j]? = some y' →
        (x.arrival < y.arrival ↔ x'.arrival < y'.arrival))) ∧
  ∀ (s : State) (n : Nat) (m : Move), s.Keyed → s.head n = some m → (m.state = .queued ∨ m.state = .pending) →
    let v := s.promote n
    (m.kind = .travel ∨ s.judgeTarget m = .pass →
      (∃ m', v.findMove m.id = some m' ∧ m'.state = .zones ∧ m'.target = m.target) ∧ v.arbiter.examine = true ∧
      ∃ e, v.arbiter.requests.filter (fun x => x.crane == n) = [e] ∧ e.move = m.id ∧
        e.urgent = (m.urgent || m.origin == .yield) ∧ e.carries = decide (m.kind = .carry) ∧
        ∀ x ∈ v.arbiter.requests, x.crane ≠ n → x.arrival < e.arrival ∨ ∃ y ∈ s.arbiter.requests, s.arbiter.nextArrival ≤ y.arrival) ∧
    (m.kind = .carry → s.judgeTarget m ≠ .pass →
      (∃ m', v.findMove m.id = some m' ∧ m'.state = .held ∧ m'.target = none ∧ m'.offTarget = true ∧
        m'.hold = some (if s.judgeTarget m = .axle then .axleLimit else .destUnfit)) ∧
      (∀ x ∈ v.arbiter.requests, x.move ≠ m.id) ∧
      (n ≤ 3 → v.port.flags.getLsbD (Notice.moveHeld n).index = true))

/-- RESUME by R105: refused for an identifier with no record, a move that is not HELD, a reason it does not take, a withdrawn
target, or a resting coil still to be weighed; otherwise the hold is cleared and the move goes on by its reason. ACCEPT by R106:
taken for a move HELD for MISMATCH or WEIGH_FAULT; a passing destination sends it on in CARRYING, or in PLACED for a resting
coil with the off-target mark judged at the crane's last position; a failing one holds it again with its target withdrawn. The
coil's record is not written. Model's choice: a CROSSING head whose target no longer passes (notes/assumptions/47.md). -/
def Obligations.ResumeAndAcceptSendHeldMovesOn : Prop :=
  (∀ (s : State) (q id : Nat), s.fresh (.resume q id) →
     let i := Instr.resume q id
     match s.findMove id with
     | none => Refused i s .unknown
     | some m =>
       let again := m.hold = some .unsettled ∨ m.hold = some .weighFault
       let resting := ∃ c, s.findCrane m.crane = some c ∧ c.load = .resting
       let waits := s.acting.updMove id (fun k => { k with state := .pending, hold := none })
       (m.state ≠ .held ∨ ¬ (again ∨ m.hold = some .crossing ∨ m.hold = some .strayGrip) ∨ m.target = none ∨ (again ∧ resting) →
         Refused i s .wrongState) ∧
       (m.state = .held → m.target ≠ none →
         (m.hold = some .crossing → Settles i s
           (if s.isHead m = true then (s.acting.enterZones m).refreshWindow m.crane else waits) .none) ∧
         (m.hold = some .strayGrip → Settles i s
           (if s.isHead m = true then
             ((s.acting.updMove id (fun k => { k with state := .toSource, hold := none })).refreshWindow m.crane).placeOrder id
            else waits) .none) ∧
         (again → ¬ resting → Settles i s
           (((s.acting.updMove id (fun k => { k with state := .weighing, hold := none })).refreshWindow m.crane).startCheck m 0)
           .none))) ∧
  (∀ (s : State) (q id : Nat), s.fresh (.accept q id) →
     let i := Instr.accept q id
     match s.findMove id with
     | none => Refused i s .unknown
     | some m =>
       if m.state = .held ∧ (m.hold = some .mismatch ∨ m.hold = some .weighFault) then
         let u := s.acting
         let off := s.offTargetAt m (s.lastPosOf m.crane)
         Settles i s
           (match s.judgeTarget m with
             | .pass =>
               if (s.findCrane m.crane).any (fun c => c.load == .resting) = true then
                 (u.updMove id (fun k => { k with state := .placed, hold := none, offTarget := off })).refreshWindow m.crane
               else (u.updMove id (fun k => { k with state := .carrying, hold := none })).refreshWindow m.crane
             | .unfit => (u.withdrawTarget m).holdMove m .destUnfit
             | .axle => (u.withdrawTarget m).holdMove m .axleLimit) .none
       else Refused i s .wrongState)

/-- RETARGET by R107: taken for a HELD move with its coil on the hook or its target withdrawn; the old target is freed and the
new one reserved, the marks are written, and a move whose weight is resolved goes for runway again. A reserved place is INCOMING
with the move and its coil; for a cradle the coil's plan entry there becomes MOVING and a READY bay LOADING (R33, R166, R167). A
withdrawn target is taken from the move and the off-target mark set; a place that names the move is FREE again, a cradle's entry
that was MOVING with the move returns to WAITING, and no other place changes (R36, R104). Model's choice: targets out of range
or not defined, and that the new target is judged before the old one is freed (notes/assumptions/29.md,
notes/assumptions/54.md). -/
def Obligations.RetargetReservesNewTarget : Prop :=
  let entries := fun (x : Bay) (coil : Ident) (k : Nat) (st : EntryStatus) =>
    x.plan.map (fun e => if e.coil = coil ∧ e.cradle = k then { e with status := st } else e)
  (∀ (s : State) (id : Nat) (coil : Ident) (p : PlaceRef),
    let v := s.reserveTarget id coil p
    (∀ z, v.findPlace z = if z = p then (s.findPlace p).map (fun x => { x with state := .incoming id coil }) else s.findPlace z) ∧
    v = { s with store := v.store, bays := v.bays, port := { s.port with flags := v.port.flags } } ∧
    ((∀ b k, p ≠ .cradle b k) → v.bays = s.bays ∧ v.port = s.port) ∧
    ∀ b k x, p = .cradle b k → s.findBay b = some x → v.store = s.store ∧ (∀ n, n ≠ b → v.findBay n = s.findBay n) ∧
      ∃ y, v.findBay b = some y ∧ y.plan = entries x coil k (.moving id) ∧
        y.phase = (if x.phase = .ready then .loading else x.phase) ∧ y.hold = x.hold ∧ y.presence = x.presence ∧
        y.security = x.security ∧ y.truck = x.truck ∧ y.round = x.round ∧
        (y.plan ≠ x.plan ∨ y.phase ≠ x.phase → b ≤ 4 → v.port.flags.getLsbD (Notice.bayChange b).index = true)) ∧
  (∀ (s : State) (m : Move),
    let v := s.withdrawTarget m
    v = { s with
      moves := { s.moves with recs := s.moves.recs.map (fun k =>
        if k.id = m.id then { k with target := none, offTarget := true } else k) }
      store := v.store, bays := v.bays, port := { s.port with flags := v.port.flags } } ∧
    ((∀ p, m.target ≠ some (.place p)) → v.store = s.store ∧ v.bays = s.bays ∧ v.port = s.port) ∧
    ∀ p, m.target = some (.place p) → (∀ z, z ≠ p → v.findPlace z = s.findPlace z) ∧
      (∀ x, s.findPlace p = some x →
        let held := (∃ c, x.state = .incoming m.id c ∨ x.state = .outgoing m.id c) ∨ x.state = .vacated m.id
        (held → v.findPlace p = some { x with state := .free }) ∧ (¬ held → v.findPlace p = some x)) ∧
      ((∀ b k, p ≠ .cradle b k) → v.bays = s.bays ∧ v.port = s.port) ∧
      ∀ b k x coil, p = .cradle b k → s.findBay b = some x → m.coil = some coil →
        ∃ y, v.findBay b = some y ∧ y.phase = x.phase ∧ y.hold = x.hold ∧ y.presence = x.presence ∧ y.truck = x.truck ∧
          ((∃ e ∈ x.plan, e.coil = coil ∧ e.cradle = k ∧ e.status = .moving m.id) → y.plan = entries x coil k .waiting ∧
            (b ≤ 4 → v.port.flags.getLsbD (Notice.bayChange b).index = true)) ∧
          ((∀ e ∈ x.plan, e.coil = coil → e.cradle = k → e.status ≠ .moving m.id) → y.plan = x.plan)) ∧
  ∀ (s : State) (q id : Nat) (target : Option MoveTarget), s.fresh (.retarget q id target) →
    let i := Instr.retarget q id target
    match s.findMove id with
    | none => Refused i s .unknown
    | some m =>
      if m.state ≠ .held ∨ (s.onHook m = false ∧ m.target ≠ none) then Refused i s .wrongState
      else if target = none ∧ m.autoTarget = false then Refused i s .outOfRange
      else
        let t := target.getD .auto
        ∀ c, s.moveCoil m = some c →
          if (match t with | .named (.cradle b k) => decide (b < 1 ∨ 4 < b ∨ k < 1 ∨ 6 < k) | _ => false) = true then
            Refused i s .outOfRange
          else if s.targetDefined t = false then Refused i s .unknown
          else match s.chooseTarget (m.source.bind Loc.place?) c t with
            | .error st => Refused i s st
            | .ok (p, auto) =>
              let m' : Move := { m with target := some (.place p), autoTarget := auto, offTarget := false }
              let v := ((s.acting.freeTarget m).reserveTarget m.id c.id p).updMove m.id (fun k =>
                { k with target := some (.place p), autoTarget := auto, offTarget := false })
              Settles i s
                (if m.hold = some .mismatch ∨ m.hold = some .weighFault ∨ m.hold = some .unsettled then v
                 else if v.isHead m' = true then (v.enterZones m').refreshWindow m.crane
                 else v.updMove m.id (fun k => { k with state := .pending, hold := none })) (.target p)

/-- ABORT by R108: a live move whose coil is not on the hook, or whose source is HOOK and that still waits for runway, ends
ABORTED, with a CANCEL where it was under way and STRAY_GRIP where the tongs are left round its coil. DISCARD of an ended move
removes that record, of all every ended record, and changes nothing else; a live move is refused with WRONG_STATE and an
identifier with no record with UNKNOWN (R110). Model's choice: the CANCEL before the window that the end computes again
(notes/assumptions/51.md), and the answer of DISCARD (notes/assumptions/43.md). -/
def Obligations.AbortEndsAndDiscardRemoves : Prop :=
  (∀ (s : State) (q id : Nat), s.fresh (.abort q id) →
     let i := Instr.abort q id
     match s.findMove id with
     | none => Refused i s .unknown
     | some m =>
       if m.state = .ended then Refused i s .wrongState
       else if s.onHook m = true ∧
           ¬ (m.source.any (fun l => match l with | .hook _ => true | _ => false) = true ∧
             (m.state = .queued ∨ m.state = .pending ∨ m.state = .zones)) then
         Refused i s .onHook
       else
         let grip := m.state = .gripped ∨ (m.state = .held ∧ m.gripTaken = true ∧
           ∃ c, s.findCrane m.crane = some c ∧ c.tongs = .closed)
         let going := m.state = .toSource ∨ m.state = .travelling
         ∃ u : State,
           (grip → u = s.acting.updCrane m.crane (fun c => { c with raise := { c.raise with strayGrip := true } })) ∧
           (¬ grip → u = s.acting) ∧
           Settles i s (((if going then u.placeMessage m.crane (.cancel id) else u).settlePlaces m .aborted).finishMove m .aborted
             false) .none) ∧
  ((∀ (s : State) (q : Nat), s.fresh (.discard q none) →
     Answers (.discard q none) s
       { s.taking with moves := { s.moves with recs := s.moves.recs.filter (fun m => m.state != .ended) } }
       (.count (s.moves.recs.filter (fun m => m.state == .ended)).length)) ∧
   (∀ (s : State) (q id : Nat), s.fresh (.discard q (some id)) →
     match s.findMove id with
     | none => Refused (.discard q (some id)) s .unknown
     | some m => if m.state = .ended then
         Answers (.discard q (some id)) s
           { s.taking with moves := { s.moves with recs := s.moves.recs.filter (fun k => k.id != id) } } .none
       else Refused (.discard q (some id)) s .wrongState))

/-- A move's end: the record is ENDED with its outcome and mark, its coil is named by no move, no zone entry and no CHECK of it
is left, MOVE_ENDED is raised, every other coil, zone, channel and setting is untouched, and so is every place and bay where no
next move goes for runway (R103). The places of an ending move are settled by the table of R35, whatever its source (a place, a
cradle, a hook or an astray coil) and whether its target stands or is withdrawn: DONE makes the target OCCUPIED and a VACATED
source FREE, RETURNED makes the source OCCUPIED and the target FREE, ABORTED returns an OUTGOING source to OCCUPIED, and the
other outcomes free both; blocked marks stand (R26, R35). At a cradle target DONE makes the cradle OCCUPIED and its entry
PLACED, which may make the bay LOADED, and starts a placement round; every other outcome makes the cradle FREE and its entry
WAITING; the source, another cradle of this or another bay among the places it may be, is settled by the same table (R98, R166,
R167, R174). -/
def Obligations.EndedMoveLeavesNothingBehind : Prop :=
  let settled := fun (move : Nat) (o : MoveOutcome) (coil : Ident) (st : PlaceState) => (match st with
    | .outgoing id c => if id = move then .occupied c else st
    | .vacated id => if id = move then (if o = .returned then .occupied coil else .free) else st
    | st => st : PlaceState)
  (∀ (s : State) (m : Move) (o : MoveOutcome) (misfit : Bool), s.Keyed → s.findMove m.id = some m → 1 ≤ m.crane → m.crane ≤ 3 →
     let v := s.finishMove m o misfit
     (∃ m', v.findMove m.id = some m' ∧ m'.state = .ended ∧ m'.outcome = some o ∧ m'.misfit = misfit) ∧
     (∀ k, m.coil = some k → ∀ c, s.findCoil k = some c → v.findCoil k = some { c with move := none }) ∧
     (∀ k, m.coil ≠ some k → v.findCoil k = s.findCoil k) ∧
     (∀ e ∈ v.arbiter.requests, e.move ≠ m.id) ∧
     ((∀ r ∈ s.weigh.queue, r.purpose = .check → r.requesters.count (.move m.id) ≤ 1) →
       ∀ r ∈ v.weigh.queue, r.purpose = .check → Requester.move m.id ∉ r.requesters) ∧
     v.port.flags.getLsbD (Notice.moveEnded m.crane).index = true ∧
     (v.queue m.crane).map Move.id = ((s.queue m.crane).filter (fun x => x.id != m.id)).map Move.id ∧
     v.arbiter.table = s.arbiter.table ∧ v.channels = s.channels ∧ v.calib = s.calib ∧ v.settings = s.settings ∧ v.points = s.points ∧
     (s.isHead m = false ∨ (∀ h, (s.queue m.crane).tail.head? = some h → h.state ≠ .queued ∧ h.state ≠ .pending) →
       v.store = s.store ∧ v.bays = s.bays)) ∧
  (∀ (s : State) (m : Move) (o : MoveOutcome) (coil : Ident), m.coil = some coil →
     (∀ x k, m.target ≠ some (.place (.cradle x k))) → (∀ p, m.source = some (.place p) → m.target ≠ some (.place p)) →
     (∀ t b, m.target = some (.place t) → s.findPlace t = some b → b.state = .incoming m.id coil) →
       let v := s.settlePlaces m o
       (∀ p a, m.source = some (.place p) → s.findPlace p = some a →
         v.findPlace p = some { a with state := settled m.id o coil a.state }) ∧
       (∀ t b, m.target = some (.place t) → s.findPlace t = some b →
         v.findPlace t = some { b with state := (if o = .done then .occupied coil else .free) }) ∧
       (∀ x, m.source ≠ some (.place x) → m.target ≠ some (.place x) → v.findPlace x = s.findPlace x) ∧
       v = { s with store := v.store, bays := v.bays } ∧ v.bays.map Bay.plan = s.bays.map Bay.plan ∧
       v.bays.map Bay.phase = s.bays.map Bay.phase) ∧
  (∀ (s : State) (m : Move) (o : MoveOutcome) (coil : Ident) (b j : Nat) (x : Bay) (c : Place) (e : PlanEntry),
     m.coil = some coil → m.target = some (.place (.cradle b j)) → m.source ≠ some (.place (.cradle b j)) →
     s.findBay b = some x → nth? x.cradles j = some c → c.state = .incoming m.id coil →
     x.plan.filter (fun k => k.coil == coil && k.cradle == j) = [e] → e.status = .moving m.id →
       let st : EntryStatus := if o = .done then .placed else .waiting
       let plan := x.plan.map (fun k => if k.coil = coil ∧ k.cradle = j then { k with status := st } else k)
       ∃ (v : State) (y : Bay), s.settlePlaces m o = v ∧ v.findBay b = some y ∧
         nth? y.cradles j = some { c with state := (if o = .done then .occupied coil else .free) } ∧
         (∀ p a, m.source = some (.place p) → s.findPlace p = some a →
           v.findPlace p = some { a with state := settled m.id o coil a.state }) ∧
         (∀ p, p ≠ .cradle b j → m.source ≠ some (.place p) → v.findPlace p = s.findPlace p) ∧ y.plan = plan ∧
         y.phase = (if o = .done ∧ x.phase = .loading ∧ (∀ k ∈ plan, k.status = .placed) then .loaded else x.phase) ∧
         y.hold = x.hold ∧ y.presence = x.presence ∧ (o ≠ .done → y.round = x.round) ∧
         (o = .done → x.truck.isSome = true →
           (y.round.isSome = true ↔ s.levelOf b .front ≠ .fault ∧ s.levelOf b .rear ≠ .fault)) ∧
         (b ≤ 4 → v.port.flags.getLsbD (Notice.bayChange b).index = true) ∧
         (∀ n z, n ≠ b → s.findBay n = some z → ∃ z', v.findBay n = some z' ∧
           z' = { z with cradles := z'.cradles, lamp := z'.lamp } ∧
           ((∀ i, m.source ≠ some (.place (.cradle n i))) → z' = z)) ∧
         v.coils = s.coils ∧ v.moves = s.moves)

/-- A slack timer that runs and expires stops; with the load LOADED the live move that names the coil on the hook ends DROPPED,
the coil astray at the crane's last position and the load FREE; a loose coil is left astray likewise with MOVE_ENDED raised
(R99, R120). Model's choice: an expiry with no timer running, and a hook with no move that names its coil
(notes/assumptions/21.md, notes/assumptions/46.md). -/
def Obligations.SlackLosesTheLoad : Prop :=
  ∀ (s : State) (link : Fin 3) (c : Crane),
    let n := link.val + 1
    let u := s.beginEvent.updCrane n (fun k => { k with slack := none })
    let freed := fun (v : State) => v.updCrane n (fun k => { k with load := .free, slack := none })
    let p := s.lastPosOf n
    s.findCrane n = some c →
      (c.slack = none → exec (.slack link) s = .next s) ∧
      (c.slack.isSome = true → c.load ≠ .loaded → exec (.slack link) s = .next u.settle) ∧
      (c.slack.isSome = true → c.load = .loaded →
        match s.coils.find? (fun k => k.loc == .hook n) with
        | none => exec (.slack link) s = .next (freed u).settle
        | some k =>
          match (k.move.bind s.findMove).filter (fun m => m.state != .ended && m.crane == n) with
          | none => exec (.slack link) s = .next
              ((freed (u.updCoil k.id (fun r => { r with loc := .astray p.1 p.2 }))).raise (.moveEnded n)).settle
          | some m => exec (.slack link) s = .next
              (((freed (match m.coil with
                | some id => u.updCoil id (fun r => { r with loc := .astray p.1 p.2 })
                | none => u)).settlePlaces m .dropped).finishMove m .dropped false).settle)

/-! ### Channels and watches (chapter 6) -/

/-- A RUNNING channel reads one bit at a rising clock edge: the run length counts equal bits, the no-clock timer restarts, the
fast filter and the engine that runs a request on the weigh point take the bit, and a run that reaches the threshold is noted
for STUCK; in UNCONFIGURED and FAULT the edge is ignored (R113, R114). Model's choice: what the edge leaves to FAST_UPDATE,
GROSS_SAMPLE and STUCK (notes/assumptions/15.md). -/
def Obligations.ClockEdgeFeedsFiltersAndDetectors : Prop :=
  ∀ (s : State) (ch : Fin 14) (bit : Bool),
    let c := s.channel ch.val
    (c.state ≠ .running → exec (.risingClockEdge ch bit) s = .next s) ∧
    ∀ cfg, c.state = .running → c.stuckDue = false → c.cfg = some cfg →
      let run := if c.lastBit = some bit then c.runLength + 1 else 1
      let r := c.fast.push cfg.fastOrder cfg.fastDecim (if bit then 1 else -1)
      exec (.risingClockEdge ch bit) s = .next
        { s with
          channels := s.channels.modify ch.val (fun k =>
            { k with runLength := run, lastBit := some bit, noClock := some 50, fast := r.1, fastOut := k.fastOut ++ r.2.toList
                     stuckDue := decide (s.settings.stuckRun ≤ run) })
          weigh := { s.weigh with queue := s.weigh.queue.map (fun q =>
            if q.run.isSome = true ∧ q.point = pointOfChannel ch.val then
              let side := (pointOfChannel ch.val).channels.idxOf ch.val
              let feed := fun (p : Precise) => p.push cfg (s.calibOf ch.val) (if bit then 1 else -1)
              { q with run := q.run.map (fun e => { e with paths := e.paths.modify side feed }) }
            else q) } }

/-- A RUNNING channel whose stuck run is reached, or whose no-clock timer runs out, enters FAULT with its cause: its timer
stops, CHANNEL_FAULT is raised, a request that runs on its weigh point ends FAULT with its latest sample, a result on its way to
each of its requesters, while every other stays or, started on a weigh point that does not run, ends FAULT too (R126, R128), a
hoist's crane has FAULT in its raise inhibit reason set and its slack timer stopped, and a platform's bay has level FAULT with
its presence frozen (R114, R115, R154). On a channel that does not run, whose stuck run is not reached or whose timer is
stopped, nothing changes (R114). Model's choice: the commands themselves (notes/assumptions/21.md), and that a fault takes an
output of the fast filter that still waits with the filter (notes/assumptions/15.md). -/
def Obligations.ChannelFaultStopsItsWeighPoint : Prop :=
  ∀ (s : State) (ch : Fin 14) (cause : FaultCause), s.Within →
    let c := s.channel ch.val
    let i := match cause with | .stuck => Instr.stuck ch | .noClock => Instr.noClock ch
    let wp := pointOfChannel ch.val
    (c.state ≠ .running ∨ (cause = .stuck ∧ c.stuckDue = false) ∨ (cause = .noClock ∧ c.noClock = none) → exec i s = .next s) ∧
    (c.state = .running → (cause = .stuck → c.stuckDue = true) → (cause = .noClock → c.noClock.isSome = true) →
      ∃ v : State, exec i s = .next v.settle ∧
        v.channel ch.val = { c with state := .fault cause, noClock := none, fastOut := [], stuckDue := false } ∧
        (∀ k, k ≠ ch.val → v.channel k = s.channel k) ∧
        v.port.flags.getLsbD (Notice.channelFault ch.val).index = true ∧ v.runningOn wp = none ∧
        (∀ r ∈ s.weigh.queue, r.run.isSome = true → r.point = wp → ∀ q ∈ r.requesters, ∃ d ∈ v.weigh.outbox,
          d.requester = q ∧ d.result.point = wp ∧ d.result.purpose = r.purpose ∧ d.result.outcome = .fault ∧
          d.result.sample = r.run.bind (fun e => e.samples.head?) ∧ d.result.retry = r.retry) ∧
        (∀ r ∈ s.weigh.queue, r.run = none ∨ r.point ≠ wp → (∃ x ∈ v.weigh.queue, x.arrival = r.arrival) ∨
          ∀ q ∈ r.requesters, ∃ d ∈ v.weigh.outbox, d.requester = q ∧ d.result.point = r.point ∧
            d.result.purpose = r.purpose ∧ d.result.outcome = .fault) ∧
        (∀ n k, wp = .hoist n → s.findCrane n = some k →
          v.findCrane n = some { k with slack := none, raise := { k.raise with fault := true } }) ∧
        (∀ b x, (wp = .front b ∨ wp = .rear b) → s.findBay b = some x → (s.point wp).level ≠ .fault →
          (v.point wp).level = .fault ∧ ∃ y, v.findBay b = some y ∧ y.frozen = true ∧ y.arrival = none ∧ y.departure = none ∧
            y.presence = x.presence ∧ y.hold = (if x.hold = some .planLimit ∨ x.hold = some .tareLimit then x.hold
              else some .platformFault)))

/-- CLEAR of a channel: a channel in FAULT enters RUNNING restarted, FAULT leaves its crane's raise inhibit reason set when both
hoist channels run, and a defined bay's platform returns; a RUNNING channel is left as it is (R113, R116). CLEAR of a crane by
the table of R119: OVERLOAD goes only when the latest fast sum of the hoist, the clamped sum of the fast weights of its two
channels (R117), is at or below the threshold. -/
def Obligations.ClearRestartsChannelOrFreesCrane : Prop :=
  (∀ (s : State) (wp : WeighPoint), s.FastSumIs wp (s.fastSum wp)) ∧
  (∀ (s : State) (q ch : Nat), s.fresh (.clearChannel q ch) →
     let i := Instr.clearChannel q ch
     if 13 < ch then Refused i s .outOfRange
     else match (s.channel ch).state with
       | .unconfigured => Refused i s .wrongState
       | .running => Answers i s s.taking .none
       | .fault _ =>
         let u : State := { s.acting with channels := s.channels.modify ch (fun c =>
           { state := .running, cfg := c.cfg, scale := c.scale, runLength := 0, lastBit := none, noClock := some 50
             fast := Sinc.start ((c.cfg.map ChanSettings.fastOrder).getD 1), fastWeight := none, fastOut := []
             stuckDue := false }) }
         Settles i s
           (match pointOfChannel ch with
             | .hoist n => if u.pointRunning (.hoist n) = true then
                 u.updCrane n (fun c => { c with raise := { c.raise with fault := false } }) else u
             | .front b => u.setLevel b .front .none
             | .rear b => u.setLevel b .rear .none) .none) ∧
  (∀ (s : State) (q n : Nat), s.fresh (.clearCrane q n) →
     let i := Instr.clearCrane q n
     let sum := s.fastSum (.hoist n)
     let d : Data := .overload sum s.settings.overload
     let refused := exec i s = .next (s.taking.respond i { status := .overLimit, item := none, data := d })
     if n < 1 ∨ 3 < n then Refused i s .outOfRange
     else match s.findCrane n with
       | none => Refused i s .unknown
       | some c =>
         if c.raise.overload = false then Answers i s s.taking d
         else match sum with
           | none => refused
           | some v =>
             if v ≤ s.settings.overload then
               Answers i s { s.taking with cranes := s.cranes.map (fun k =>
                 if k.num = n then { k with raise := { k.raise with overload := false } } else k) } d
             else refused)

/-- The fast sum of a weigh point is the sum of the latest fast weights of its channels, clamped to ±250,000 kg, and is absent
while a channel of it does not run or has no fast weight (R117). A fast filter output becomes the fast weight of its channel by
span and zero, clamped to ±250,000 kg. Where every channel of a hoist has one, peak and trough take the fast sum, OVERLOAD is
latched above the threshold, and the slack timer and lift peak of a LOADED crane follow the fast net (R117, R119 to R121, R123,
R138). At a fast update of a platform, peak and trough take the fast sum, and a defined bay is handed the level the thresholds
give. A level handed to a bay that is not frozen moves its presence by the tables of R152 and R153, with their timers: HIGH on a
platform makes EMPTY ARRIVING and its end makes ARRIVING EMPTY, LOW on both makes PRESENT DEPARTING and its end makes DEPARTING
PRESENT; a change raises BAY_CHANGE and makes an examination follow. A frozen presence stays while a platform has level FAULT;
when none has it thaws, with a fresh timer where its condition holds, and a bay in TARING places the TAREs it still needs on the
platforms that run (R154, R157, R159). A channel with no output waiting has no update, and a weigh point of a crane or bay not
defined has peak and trough alone (R117, R122, R123). Model's choice: that a change of presence raises BAY_CHANGE and a thaw
without one does not (notes/assumptions/22.md, notes/assumptions/83.md), an update with no output waiting, the slack timer in
the crane record, levels of bays not defined, and TAREs at a thaw (notes/assumptions/21.md, notes/assumptions/39.md,
notes/assumptions/40.md, notes/assumptions/67.md). -/
def Obligations.FastUpdateDrivesWatchesAndLevels : Prop :=
  (∀ (s : State) (wp : WeighPoint), s.FastSumIs wp (s.fastSum wp)) ∧
  (∀ (s : State) (ch : Fin 14) (out : Int) (rest : List Int) (n : Nat) (c : Crane), s.Within →
     let k := s.channel ch.val
     let z := s.calibOf ch.val
     let w := clampInt (-250000) 250000 (roundDiv ((out * 2 ^ k.scale - z.zero) * z.span) 65536)
     k.state = .running → k.fastOut = out :: rest → pointOfChannel ch.val = .hoist n → s.findCrane n = some c →
       let u := s.beginEvent.updChannel ch.val (fun k => { k with fastOut := rest, fastWeight := some w })
       match u.fastSum (.hoist n) with
       | none => exec (.fastUpdate ch) s = .next u.settle
       | some sum =>
         let net := sum - c.tare
         ∃ v : State, exec (.fastUpdate ch) s = .next v.settle ∧
           (v.point (.hoist n)).peak = max (s.point (.hoist n)).peak sum ∧
           (v.point (.hoist n)).trough = min (s.point (.hoist n)).trough sum ∧
           v.findCrane n = some
             { c with
               raise := { c.raise with overload := c.raise.overload || decide ((s.settings.overload : Int) < sum) }
               slack := (if c.load ≠ .loaded then c.slack
                 else if net < s.settings.slack then some (c.slack.getD s.settings.slackTime) else none)
               liftPeak := (if c.load ≠ .loaded then c.liftPeak else some (max (c.liftPeak.getD net) net)) } ∧
           (v.port.flags = s.port.flags ||| (if c.raise.overload = false ∧ (s.settings.overload : Int) < sum then
             (Notice.overload n).bit else 0)) ∧
           v = { u with cranes := v.cranes, points := v.points, port := { s.port with flags := v.port.flags } } ∧
           (∀ wp, wp.valid = true → wp ≠ .hoist n → v.point wp = s.point wp) ∧
           (∀ j, j ≠ n → v.findCrane j = s.findCrane j)) ∧
  (∀ (s : State) (ch : Fin 14), s.Within →
     ((s.channel ch.val).fastOut = [] → exec (.fastUpdate ch) s = .next s) ∧
     ∀ out rest b d x, (s.channel ch.val).state = .running → (s.channel ch.val).fastOut = out :: rest →
       sideOf (pointOfChannel ch.val) = some (b, d) → s.findBay b = some x →
       let z := s.calibOf ch.val
       let w := clampInt (-250000) 250000 (roundDiv ((out * 2 ^ (s.channel ch.val).scale - z.zero) * z.span) 65536)
       let l : Level := if (s.settings.arrivalThreshold : Int) < w then .high
         else if w < s.settings.emptyThreshold then .low else .mid
       ∃ v : State, exec (.fastUpdate ch) s = .next v.settle ∧ (v.channel ch.val).fastWeight = some w ∧
         v.levelOf b d = l ∧ (v.point (d.point b)).peak = max (s.point (d.point b)).peak w ∧
         (v.point (d.point b)).trough = min (s.point (d.point b)).trough w ∧
         v = (({ s.beginEvent with
           channels := s.channels.modify ch.val (fun k => { k with fastOut := rest, fastWeight := some w })
           points := s.points.modify (d.point b).index (fun p => { p with peak := max p.peak w, trough := min p.trough w })
           } : State)).setLevel b d l ∧
         (l = s.levelOf b d → v.bays = s.bays)) ∧
  (∀ (s : State) (b : Nat) (d : Side) (l : Level) (x : Bay), s.Within → s.LampsShow → 1 ≤ b → b ≤ 4 → s.findBay b = some x →
     l ≠ .fault →
     let v := s.setLevel b d l
     let front := match d with | .front => l | .rear => s.levelOf b .front
     let rear := match d with | .front => s.levelOf b .rear | .rear => l
     let high : Prop := front = .high ∨ rear = .high
     let low : Prop := front = .low ∧ rear = .low
     let presence : Presence := match x.presence with
       | .empty => if high then .arriving else .empty
       | .arriving => if high then .arriving else .empty
       | .present => if low then .departing else .present
       | .departing => if low then .departing else .present
     let arrives : Timer := some (1000 * s.settings.arrivalTime)
     let departs : Timer := some (1000 * s.settings.departureTime)
     (l = s.levelOf b d → v = s) ∧
     (l ≠ s.levelOf b d → v.levelOf b .front = front ∧ v.levelOf b .rear = rear ∧
       (front = .fault ∨ rear = .fault → v.bays = s.bays ∧ v.port = s.port ∧ v.arbiter = s.arbiter) ∧
       (front ≠ .fault → rear ≠ .fault → ∃ y, v.findBay b = some y ∧ y.presence = presence ∧ y.frozen = false ∧
         y.phase = x.phase ∧ y.hold = x.hold ∧ y.security = x.security ∧ y.lamp = lampOf presence x.phase ∧
         (∀ n, n ≠ b → v.findBay n = s.findBay n) ∧
         v.port.flags = (if presence = x.presence then s.port.flags else s.port.flags ||| (Notice.bayChange b).bit) ∧
         v.arbiter = { s.arbiter with examine := s.arbiter.examine || x.frozen || decide (presence ≠ x.presence) } ∧
         (x.frozen = false → v.weigh = s.weigh ∧
           y.arrival = (if presence = x.presence then x.arrival else if presence = .arriving then arrives else none) ∧
           y.departure = (if presence = x.presence then x.departure else if presence = .departing then departs else none)) ∧
         (x.frozen = true →
           y.arrival = (if presence = .arriving then arrives else none) ∧
           y.departure = (if presence = .departing then departs else none) ∧
           (x.phase ≠ .taring → v.weigh = s.weigh) ∧
           (x.phase = .taring → ∀ k : Side, y.request k =
             if x.candidate k = none ∧ x.request k = none ∧ s.pointRunning (k.point b) = true then
               some { purpose := .tare, retry := 0 } else x.request k))))) ∧
  (∀ (s : State) (ch : Fin 14) (out : Int) (rest : List Int), s.Within →
     let wp := pointOfChannel ch.val
     let z := s.calibOf ch.val
     let w := clampInt (-250000) 250000 (roundDiv ((out * 2 ^ (s.channel ch.val).scale - z.zero) * z.span) 65536)
     let u := s.beginEvent.updChannel ch.val (fun k => { k with fastOut := rest, fastWeight := some w })
     (s.channel ch.val).state = .running → (s.channel ch.val).fastOut = out :: rest →
     (∀ n, wp = .hoist n → s.findCrane n = none) → (∀ b, wp = .front b ∨ wp = .rear b → s.findBay b = none) →
       exec (.fastUpdate ch) s = .next (match u.fastSum wp with
         | none => u
         | some sum => { u with points := u.points.modify wp.index (fun p =>
             { p with peak := max p.peak sum, trough := min p.trough sum }) }).settle)

/-- PEAKS returns peak, trough and latest fast sum of each weigh point named, the clamped sum of the fast weights of its
channels (R117), and resets the peak and trough of those and of no other (R123). WEIGH-RESULT returns the host result slot of a
weigh point with the unread mark as it stood, and clears that mark alone (R130). -/
def Obligations.PeaksAndResultsAreReadOnce : Prop :=
  (∀ (s : State) (wp : WeighPoint), s.FastSumIs wp (s.fastSum wp)) ∧
  (∀ (s : State) (q : Nat),
     let view := fun (wp : WeighPoint) =>
       ({ point := wp, peak := (s.point wp).peak, trough := (s.point wp).trough, sum := s.fastSum wp } : PeakView)
     let zero := fun (p : Point) => { p with peak := -250000, trough := 250000 }
     (s.fresh (.peaks q none) → Answers (.peaks q none) s
       { s.taking with points := (s.points.take 11).map zero ++ s.points.drop 11 } (.peaks (allPoints.map view))) ∧
     ∀ wp, s.fresh (.peaks q (some wp)) →
       if wp.valid = true then
         Answers (.peaks q (some wp)) s { s.taking with points := s.points.modify wp.index zero } (.peaks [view wp])
       else Refused (.peaks q (some wp)) s .outOfRange) ∧
  (∀ (s : State) (q : Nat) (wp : WeighPoint), s.fresh (.weighResult q wp) →
     if wp.valid = true then
       Answers (.weighResult q wp) s
         { s.taking with points := s.points.modify wp.index (fun p => { p with unread := false }) }
         (.slot (s.point wp).slot (s.point wp).unread)
     else Refused (.weighResult q wp) s .outOfRange)

/-! ### Weigh requests -/

/-- WEIGH, ZERO and SPAN by their checks in order; an accepted one is placed for the host (R130, R146, R147). ZERO is refused
with WRONG_STATE for the hoist of a defined crane whose load is not FREE and for a platform of a defined bay whose presence is
not EMPTY (R146 step 4). The switch taken as closing ends every ZERO and SPAN in the queue SWITCH_CLOSED; taken as opening it
changes nothing else (R145). Model's choice: the place in the queue that is answered (notes/assumptions/30.md). -/
def Obligations.HostRequestsArePlacedAndSwitchedOff : Prop :=
  (∀ (s : State) (q : Nat) (wp : WeighPoint) (mass : Nat),
     let unconf := ∃ ch ∈ wp.channels, (s.channel ch).state = .unconfigured
     let empty := s.Unloaded wp
     let hosts := (s.weigh.queue.filter (fun r => r.purpose == .read || r.purpose == .zero || r.purpose == .span)).length
     let joins := ∃ r ∈ s.weigh.queue, r.run = none ∧ r.point = wp ∧ r.purpose = .read
     let calib := ∃ r ∈ s.weigh.queue, r.point = wp ∧ (r.purpose = .zero ∨ r.purpose = .span)
     let place := fun (p : Purpose) (m : Nat) => s.acting.placeRequest wp p .host m 0
     (s.fresh (.weigh q wp) →
       (wp.valid = false → Refused (.weigh q wp) s .outOfRange) ∧
       (wp.valid = true → unconf → Refused (.weigh q wp) s .wrongState) ∧
       (wp.valid = true → ¬ unconf → 5 ≤ hosts → ¬ joins → Refused (.weigh q wp) s .queueFull) ∧
       (wp.valid = true → ¬ unconf → (hosts < 5 ∨ joins) →
         Settles (.weigh q wp) s (place .read 0) (.queuePlace (s.hostPlace wp .read)))) ∧
     (s.fresh (.zero q wp) →
       (wp.valid = false → Refused (.zero q wp) s .outOfRange) ∧
       (wp.valid = true → s.switchClosed = true → Refused (.zero q wp) s .switchClosed) ∧
       (wp.valid = true → s.switchClosed = false → (unconf ∨ ¬ empty) → Refused (.zero q wp) s .wrongState) ∧
       (wp.valid = true → s.switchClosed = false → ¬ unconf → empty → calib → Refused (.zero q wp) s .busy) ∧
       (wp.valid = true → s.switchClosed = false → ¬ unconf → empty → ¬ calib → 5 ≤ hosts →
         Refused (.zero q wp) s .queueFull) ∧
       (wp.valid = true → s.switchClosed = false → ¬ unconf → empty → ¬ calib → hosts < 5 →
         Settles (.zero q wp) s (place .zero 0) (.queuePlace (s.weigh.queue.length + 1)))) ∧
     (s.fresh (.span q wp mass) →
       (wp.valid = false ∨ mass < 100 ∨ 250000 < mass → Refused (.span q wp mass) s .outOfRange) ∧
       (wp.valid = true → 100 ≤ mass → mass ≤ 250000 →
         (s.switchClosed = true → Refused (.span q wp mass) s .switchClosed) ∧
         (s.switchClosed = false → unconf → Refused (.span q wp mass) s .wrongState) ∧
         (s.switchClosed = false → ¬ unconf → calib → Refused (.span q wp mass) s .busy) ∧
         (s.switchClosed = false → ¬ unconf → ¬ calib → 5 ≤ hosts → Refused (.span q wp mass) s .queueFull) ∧
         (s.switchClosed = false → ¬ unconf → ¬ calib → hosts < 5 →
           Settles (.span q wp mass) s (place .span mass) (.queuePlace (s.weigh.queue.length + 1)))))) ∧
  ((∀ s : State, exec .switchOpens s = .next { s with switchClosed := false }) ∧
   ∀ s : State, ∃ v : State, exec .switchCloses s = .next v.settle ∧ v.switchClosed = true ∧
     (∀ r ∈ v.weigh.queue, r.purpose ≠ .zero ∧ r.purpose ≠ .span) ∧
     (∀ r ∈ s.weigh.queue, r.purpose = .zero ∨ r.purpose = .span → ∀ q ∈ r.requesters,
       ∃ d ∈ v.weigh.outbox, d.requester = q ∧ d.result.point = r.point ∧ d.result.outcome = .switchClosed) ∧
     v.calib = s.calib ∧ v.points = s.points)

/-- A CHECK, TARE, PLACE or READ that finds a WAITING request of its weigh point and purpose adds its requester to that one
request, and no entry is made (R125). A CHECK that merges with none starts in the event of its placement, from empty and with a
full settle timer, on the engine of a regular request running on its own weigh point, else the lowest-numbered free one, else
that of the regular request started most recently, which returns to WAITING with its preempted mark; with a channel of its hoist
that does not run it ends FAULT at once (R126, R127). After an allocation no engine is free while a WAITING request has a weigh
point on which none runs (R126). A CHECK joins the queue behind the other CHECKs and before every other request, any other
request behind all, so that the queue stays in its order: urgent requests first, each group by rising arrival number (R124). A
new request that finds 65,535 given first has the queue numbered 1 upward again in its order (R124). Model's choice: how the
most recent start is told within one event (notes/assumptions/13.md), and which of several waiting requests is merged with
(notes/assumptions/56.md). -/
def Obligations.ChecksStartAtOnceAndNoEngineIdles : Prop :=
  (∀ (s : State) (wp : WeighPoint) (p : Purpose) (q : Requester) (mass retry : Nat) (before : List WeighRequest)
     (r : WeighRequest) (rest : List WeighRequest), p ≠ .zero → p ≠ .span → s.weigh.queue = before ++ r :: rest →
     (r.run = none ∧ r.point = wp ∧ r.purpose = p) → (∀ x ∈ before, ¬ (x.run = none ∧ x.point = wp ∧ x.purpose = p)) →
       s.placeRequest wp p q mass retry = State.allocate { s with weigh := { s.weigh with
         queue := before ++ { r with requesters := r.requesters ++ [q] } :: rest } }) ∧
  (∀ (s : State) (wp : WeighPoint) (p : Purpose) (q : Requester) (mass retry : Nat), p ≠ .check → s.weigh.nextArrival ≤ 65535 →
     (p = .zero ∨ p = .span ∨ ∀ x ∈ s.weigh.queue, ¬ (x.run = none ∧ x.point = wp ∧ x.purpose = p)) →
       s.placeRequest wp p q mass retry = State.allocate { s with weigh := { s.weigh with
         queue := s.weigh.queue ++ [{ point := wp, purpose := p, requesters := [q], mass := mass, preempted := false
                                      retry := retry, arrival := s.weigh.nextArrival, run := none }]
         nextArrival := s.weigh.nextArrival + 1 } }) ∧
  (∀ (s : State) (n : Nat) (q : Requester) (retry e : Nat), s.EnginesLaw → s.weigh.nextArrival ≤ 65535 →
     s.weigh.queue.any (mergeable (.hoist n) .check) = false →
     (match s.runningOn (.hoist n), s.freeEngine with
       | some x, _ => x.urgent = false ∧ x.run.map EngineRun.engine = some e
       | none, some k => e = k
       | none, none => ∃ x run, x ∈ s.weigh.queue ∧ x.urgent = false ∧ x.run = some run ∧ run.engine = e ∧
           ∀ y other, y ∈ s.weigh.queue → y.urgent = false → y.run = some other →
             other.started < run.started ∨ (other.started = run.started ∧ other.engine ≤ run.engine)) →
     let v := s.placeRequest (.hoist n) .check q 0 retry
     (s.pointRunning (.hoist n) = true →
       (∃ r ∈ v.weigh.queue, r.arrival = s.weigh.nextArrival ∧ r.point = .hoist n ∧ r.purpose = .check ∧ r.requesters = [q] ∧
         r.retry = retry ∧ r.run = some
           { engine := e, started := s.weigh.event, settle := some s.settings.settleTimeout, paths := s.emptyPaths (.hoist n)
             samples := [] }) ∧
       (∀ x ∈ s.weigh.queue, x.run.map EngineRun.engine = some e →
         ∃ y ∈ v.weigh.queue, y.arrival = x.arrival ∧ y.preempted = true ∧ y.requesters = x.requesters ∧ y.retry = x.retry)) ∧
     (s.pointRunning (.hoist n) = false →
       (∀ r ∈ v.weigh.queue, r.arrival ≠ s.weigh.nextArrival) ∧
       ∃ d ∈ v.weigh.outbox, d.requester = q ∧ d.result.point = .hoist n ∧ d.result.purpose = .check ∧
         d.result.outcome = .fault ∧ d.result.sample = none ∧ d.result.retry = retry)) ∧
  (∀ (s : State) (n : Nat) (q : Requester) (retry : Nat) (urgent regular : List WeighRequest), s.weigh.nextArrival ≤ 65535 →
     s.weigh.queue = urgent ++ regular → (∀ x ∈ urgent, x.purpose = .check) → (∀ x ∈ regular, x.purpose ≠ .check) →
     (∀ x ∈ urgent, ¬ (x.run = none ∧ x.point = .hoist n)) →
       let r : WeighRequest :=
         { point := .hoist n, purpose := .check, requesters := [q], mass := 0, preempted := false, retry := retry
           arrival := s.weigh.nextArrival, run := none }
       let joined : State := { s with weigh := { s.weigh with
         queue := urgent ++ r :: regular, nextArrival := s.weigh.nextArrival + 1 } }
       s.placeRequest (.hoist n) .check q 0 retry = (joined.urgentStart r).allocate) ∧
  (∀ (s : State) (wp : WeighPoint) (p : Purpose) (q : Requester) (mass retry : Nat),
     let inOrder := fun (l : List WeighRequest) => l.Pairwise (fun a b =>
       (b.purpose = .check → a.purpose = .check) ∧ ((a.purpose = .check ↔ b.purpose = .check) → a.arrival < b.arrival))
     inOrder s.weigh.queue → (∀ r ∈ s.weigh.queue, r.arrival < s.weigh.nextArrival) →
       inOrder (s.placeRequest wp p q mass retry).weigh.queue) ∧
  (∀ s : State, s.allocate.freeEngine = none ∨ s.allocate.takeable = none) ∧
  (∀ w : WeighState, w.queue.Pairwise (fun x y => x.arrival ≠ y.arrival) →
     let v := w.readyArrival
     (w.nextArrival ≤ 65535 → v = w) ∧
     (65535 < w.nextArrival → v = { w with queue := v.queue, nextArrival := w.queue.length + 1 } ∧
       (v.queue.map WeighRequest.arrival).Perm ((List.range w.queue.length).map (· + 1)) ∧
       v.queue.map (fun r => { r with arrival := 0 }) = w.queue.map (fun r => { r with arrival := 0 }) ∧
       ∀ (i j : Nat) (x y x' y' : WeighRequest), w.queue[i]? = some x → w.queue[j]? = some y → v.queue[i]? = some x' → v.queue[j]? = some y' →
         (x.arrival < y.arrival ↔ x'.arrival < y'.arrival)))

/-- The next sample of every channel of a running request forms its gross sample: the sum of the channel weights clamped to
±250,000 kg, the net that less the tare, which is the hoist tare of a defined crane, the front or rear tare of a bay whose truck
is tared, and else 0, and the display value the net rounded to the division; the request ends STABLE where the latest samples
complete a window, and else goes on with the sample joined (R128, R139 to R141). No gross sample is formed while no request runs
on the weigh point or a channel's sample is still to come (R128, R134). A settle timer that runs out ends its request SATURATED
where the latest sample was saturated, else UNSTABLE, and frees the engine; an engine that runs none is unchanged (R128, R141).
The host's result is judged where it is a ZERO or a SPAN and written to the weigh point's result slot, which becomes unread, and
WEIGH_READY is raised; no other slot changes (R129). Model's choice: a gross sample or an expiry with nothing to act on
(notes/assumptions/21.md), that freed engines take waiting requests before the results are handed on (notes/assumptions/12.md),
and that the requesters of one request take its result in the order of their list (notes/assumptions/77.md). -/
def Obligations.GrossSamplesAndTimeoutsEndRequests : Prop :=
  (∀ (s : State) (wp : WeighPoint) (r : WeighRequest) (e : EngineRun) (chans : List ChanSample),
     s.runningOn wp = some r → r.run = some e → e.paths.mapM (fun p => p.samples.head?) = some chans →
       let sum := (chans.map ChanSample.weight).sum
       let gross := clampInt (-250000) 250000 sum
       let d := s.division wp
       let net := gross - (match wp with
         | .hoist n => ((s.findCrane n).elim 0 Crane.tare : Nat)
         | .front b => (s.findBay b).elim 0 (fun x => match x.frontTare, x.rearTare with | some f, some _ => f | _, _ => 0)
         | .rear b => (s.findBay b).elim 0 (fun x => match x.frontTare, x.rearTare with | some _, some r => r | _, _ => 0))
       let g : GrossSample :=
         { chans := chans, gross := gross, net := net, display := roundDiv net d * d
           saturated := chans.any ChanSample.saturated || decide (gross ≠ sum) }
       let e' : EngineRun :=
         { e with paths := e.paths.map (fun p => { p with samples := p.samples.tail }), samples := (g :: e.samples).take 16 }
       let mine := fun (x : WeighRequest) => x.arrival == r.arrival
       let u := s.beginEvent.updRequests mine (fun x => { x with run := some e' })
       let m := s.settings.window
       let stable := m ≤ e'.samples.length ∧ (∀ a ∈ e'.samples.take m, a.saturated = false ∧
         ∀ b ∈ e'.samples.take m, a.gross - b.gross ≤ (s.settings.band * d : Nat))
       (stable → exec (.grossSample wp) s = .next ((u.endRequests mine .stable).allocate).settle) ∧
       (¬ stable → exec (.grossSample wp) s = .next u.settle)) ∧
  (∀ (s : State) (wp : WeighPoint),
     (s.runningOn wp = none → exec (.grossSample wp) s = .next s) ∧
     ∀ r e, s.runningOn wp = some r → r.run = some e → (∃ p ∈ e.paths, p.samples = []) →
       exec (.grossSample wp) s = .next s) ∧
  (∀ (s : State) (k : Fin 4),
     (s.engineRequest (k.val + 1) = none → exec (.settleTimeout k) s = .next s) ∧
     ∀ r e, s.EnginesLaw → s.engineRequest (k.val + 1) = some r → r.run = some e →
       let o : WeighOutcome := if e.samples.head?.any GrossSample.saturated = true then .saturated else .unstable
       let u := s.beginEvent.endRequests (fun x => x.arrival == r.arrival) o
       exec (.settleTimeout k) s = .next u.allocate.settle ∧ u.engineRequest (k.val + 1) = none ∧
         u.weigh.queue = s.weigh.queue.filter (fun x => x.arrival != r.arrival) ∧
         ∀ q ∈ r.requesters, ∃ d ∈ u.weigh.outbox, d.requester = q ∧ d.result.point = r.point ∧ d.result.purpose = r.purpose ∧
           d.result.outcome = o ∧ d.result.sample = e.samples.head? ∧ d.result.retry = r.retry) ∧
  (∀ (s : State) (r : ResultRecord), s.Within → r.point.valid = true →
     let judged := (match r.purpose with
       | .zero => s.judgeZero r
       | .span => s.judgeSpan r
       | _ => (s, r))
     let v := s.deliver { requester := .host, result := r }
     v.point r.point = { s.point r.point with slot := some judged.2, unread := true } ∧
     (∀ wp, wp.valid = true → wp ≠ r.point → v.point wp = s.point wp) ∧
     v.port.flags = s.port.flags ||| Notice.weighReady.bit ∧
     v = { s with points := v.points, calib := judged.1.calib, port := { s.port with flags := v.port.flags } })

/-! ### Weight arithmetic and calibration (chapter 7) -/

/-- Rounding half-out: the nearest whole number, and of two equally near the one further from zero (0.7.3). A sinc filter of
order k and decimation F, started empty, gives an output at every F-th bit from bit k·F on and at no other: the k-fold running
sum of the bit values, +1 for a one and −1 for a zero, each sum adding at every bit the latest F values of the sum before it;
every output lies from −F^k to F^k, and is F^k where every bit is a one (R133). A precise path started empty completes a sample
at each I-th output of its filter: the raw value is the sum of those I outputs and lies within I·F^k of zero (R134); the shifted
value is the raw value over 2^h rounded half-out (R136), the zeroed value that less the zero, and the weight the zeroed value
times the span over 65,536 rounded half-out and clamped to ±250,000 kg, saturated where the clamp changes it (R137). -/
def Obligations.RoundingAndSincArithmetic : Prop :=
  (∀ (a : Int) (b : Nat), 0 < b →
     2 * (a - b * roundDiv a b).natAbs ≤ b ∧ (2 * (a - b * roundDiv a b).natAbs = b → a.natAbs ≤ (b * roundDiv a b).natAbs)) ∧
  (∀ (k f : Nat) (bits : List Bool) (bit : Bool), 1 ≤ k → 1 ≤ f →
     let run := bits.foldl (fun (c : Sinc) b => (c.push k f (bitValue b)).1) (Sinc.start k)
     let r := run.push k f (bitValue bit)
     (r.2.isSome = true ↔ (bits.length + 1) % f = 0 ∧ k * f ≤ bits.length + 1) ∧
     let sums := fun (l : List Int) => (List.range l.length).map (fun i => ((l.take (i + 1)).drop (i + 1 - f)).sum)
     (∀ v, r.2 = some v → (Nat.iterate sums k ((bits ++ [bit]).map bitValue)).getLast? = some v) ∧
     (∀ v, r.2 = some v → -(f ^ k : Int) ≤ v ∧ v ≤ (f ^ k : Int)) ∧
     ((∀ b ∈ bits, b = true) → bit = true → ∀ v, r.2 = some v → v = (f ^ k : Int))) ∧
  ∀ (cfg : ChanSettings) (cal : Calib) (bits : List Bool), 1 ≤ cfg.order → 1 ≤ cfg.decim → 1 ≤ cfg.integ →
    let outs := (bits.foldl (fun (c : Sinc × List Int) b =>
      let r := c.1.push cfg.order cfg.decim (bitValue b)
      (r.1, c.2 ++ r.2.toList)) (Sinc.start cfg.order, [])).2
    let p := bits.foldl (fun (p : Precise) b => p.push cfg cal (bitValue b))
      { filter := Sinc.start cfg.order, acc := 0, outputs := 0, samples := [] }
    outs.length = (bits.length - cfg.decim * (cfg.order - 1)) / cfg.decim ∧
    p.samples.length = outs.length / cfg.integ ∧
    ∀ j x, p.samples[j]? = some x →
      x.raw = ((outs.drop (j * cfg.integ)).take cfg.integ).sum ∧
      x.raw.natAbs ≤ cfg.integ * cfg.decim ^ cfg.order ∧
      x.shifted = roundDiv x.raw (2 ^ cfg.shift) ∧ x.zeroed = x.shifted - cal.zero ∧
      (let w := roundDiv (x.zeroed * cal.span) 65536
       x.weight = max (-250000) (min 250000 w) ∧ (x.saturated = true ↔ w < -250000 ∨ 250000 < w))

/-- An ended ZERO is judged by the table of R148: stored in every channel of its weigh point, with the count raised by one up to
65,535, or nothing stored with the verdict that says why, WRONG_STATE where the load of the hoist's crane is not FREE or the
presence of the platform's bay is not EMPTY (R146 step 4). An ended SPAN is judged by the table of R149: G′ is M × 65,536 / Σn
rounded half-out, stored in every channel of the weigh point with its count raised, where Σn is positive and G′ lies in 1 to
2^20; else nothing is stored. The result keeps its fields and takes the verdict; STORED carries the new zeros and counts of a
ZERO, the new span and counts of a SPAN. -/
def Obligations.ZeroAndSpanStoreByVerdictTables : Prop :=
  let bump := fun (n : Nat) => if n < 65535 then n + 1 else n
  (∀ (s : State) (r : ResultRecord), s.calib.length = 14 → r.point.valid = true →
     (∀ g, r.sample = some g → g.chans.length = r.point.channels.length) →
     let v := s.judgeZero r
     ((r.outcome ≠ .stable ∨ r.sample = none) → v.1 = s ∧ v.2 = { r with verdict := some .notStored }) ∧
     ∀ g, r.outcome = .stable → r.sample = some g →
       let empty := s.Unloaded r.point
       let fits := ∀ c ∈ g.chans, -(2 ^ 23 : Int) ≤ c.shifted ∧ c.shifted ≤ 2 ^ 23 - 1
       (¬ empty → v.1 = s ∧ v.2 = { r with verdict := some .wrongState }) ∧
       (empty → ¬ fits → v.1 = s ∧ v.2 = { r with verdict := some .outOfRange }) ∧
       (empty → fits → v.1 = { s with calib := v.1.calib } ∧
         v.2 = { r with
           verdict := some .stored
           stored := some (.zeros (g.chans.map ChanSample.shifted) (r.point.channels.map (fun ch => bump (s.calibOf ch).count))) } ∧
         (∀ (j ch : Nat) (c : ChanSample), r.point.channels[j]? = some ch → g.chans[j]? = some c →
           v.1.calibOf ch = { s.calibOf ch with zero := c.shifted, count := bump (s.calibOf ch).count }) ∧
         (∀ ch, ch ∉ r.point.channels → v.1.calibOf ch = s.calibOf ch))) ∧
  (∀ (s : State) (r : ResultRecord), s.calib.length = 14 → r.point.valid = true →
     let v := s.judgeSpan r
     ((r.outcome ≠ .stable ∨ r.sample = none) → v.1 = s ∧ v.2 = { r with verdict := some .notStored }) ∧
     ∀ g, r.outcome = .stable → r.sample = some g →
       let sum := (g.chans.map ChanSample.zeroed).sum
       let span := roundDiv (r.mass * 65536) sum.toNat
       (sum ≤ 0 ∨ span < 1 ∨ 2 ^ 20 < span → v.1 = s ∧ v.2 = { r with verdict := some .outOfRange }) ∧
       (0 < sum → 1 ≤ span → span ≤ 2 ^ 20 → v.1 = { s with calib := v.1.calib } ∧
         v.2 = { r with
           verdict := some .stored
           stored := some (.span span.toNat (r.point.channels.map (fun ch => bump (s.calibOf ch).count))) } ∧
         (∀ ch ∈ r.point.channels,
           v.1.calibOf ch = { s.calibOf ch with span := span.toNat, count := bump (s.calibOf ch).count }) ∧
         (∀ ch, ch ∉ r.point.channels → v.1.calibOf ch = s.calibOf ch)))

/-- The result of a CHECK is taken by a move in WEIGHING by the table of R101: a STABLE display net of 500 kg or more is written
to the coil with its verification by the tolerance of R142 and the destination is judged again; a lighter one, a FAULT or a
SATURATED result holds WEIGH_FAULT; a first UNSTABLE places a CHECK again, a second holds UNSETTLED (R6, R7, R101, R102, R142).
A bay takes the result of a TARE by the table of R159: a STABLE gross becomes the candidate of its platform, and both candidates
the tares, with the plan check and its hold, and READY; any other result but FAULT places a TARE again while one is needed, and
a request that has not settled sets the retry mark. A placement round fixes the expected front and rear and the band over the
coils lying on the cradles, and places a PLACE on each platform whose level is not FAULT (R174). A bay takes the result of a
PLACE by the table of R174: a STABLE net is the platform's measured net, and both nets of a round end it, with DEVIATION where
one lies beyond the band, which raises BAY_CHANGE whether or not a limit reason stands (R175); a first that has not settled is
placed again, a second holds UNSETTLED; FAULT ends the round; CANCELLED is placed again. A limit reason is not replaced (R160).
Model's choice: a CHECK's result for a move no longer in WEIGHING, a PLACE result of a round that has ended, and the retry count
of a TARE (notes/assumptions/28.md, notes/assumptions/20.md, notes/assumptions/68.md). -/
def Obligations.CheckResultDecidesTheMove : Prop :=
  let limit : Option BayHold → Prop := fun h => h = some .planLimit ∨ h = some .tareLimit
  (∀ (s : State) (b : Nat) (d : Side) (x : Bay) (r : ResultRecord), 1 ≤ b → b ≤ 4 → s.findBay b = some x → r.point = d.point b →
     r.purpose = .tare →
       let v := s.deliver { requester := .bay b, result := r }
       let other := match d with | .front => x.rearCandidate | .rear => x.frontCandidate
       let again : Option Outstanding :=
         if x.phase = .taring ∧ x.candidate d = none ∧ s.levelOf b d ≠ .fault then some { purpose := .tare, retry := 0 } else none
       v.coils = s.coils ∧ (∀ n, n ≠ b → v.findBay n = s.findBay n) ∧ ∃ y, v.findBay b = some y ∧
         (∀ k, k ≠ d → y.request k = x.request k) ∧ y.round = x.round ∧ y.plan = x.plan ∧ y.truck = x.truck ∧
         y.presence = x.presence ∧
         (∀ g, r.outcome = .stable → r.sample = some g → y.request d = none ∧ v.weigh = s.weigh ∧
           (∀ o, x.phase = .taring → other = some o →
             y.frontTare = some (match d with | .front => g.gross | .rear => o) ∧
             y.rearTare = some (match d with | .front => o | .rear => g.gross) ∧
             y.frontCandidate = none ∧ y.rearCandidate = none ∧ y.phase = .ready ∧ y.planCheck = some (v.planCheck y) ∧
             y.hold = (match v.planCheck y with
               | .passed => x.hold
               | .failed 0 _ => some .tareLimit
               | .failed _ _ => some .planLimit) ∧
             v.port.flags = s.port.flags ||| (Notice.bayChange b).bit) ∧
           (x.phase ≠ .taring ∨ other = none → y.candidate d = some g.gross ∧ y.frontTare = x.frontTare ∧
             y.rearTare = x.rearTare ∧ y.phase = x.phase ∧ y.hold = x.hold ∧ v.port = s.port)) ∧
         (r.outcome = .unstable ∨ r.outcome = .saturated → y.request d = again ∧ y.tareRetry = true ∧ y.phase = x.phase ∧
           y.hold = x.hold ∧ y.candidate d = x.candidate d ∧
           v.port.flags = (if x.tareRetry = true then s.port.flags else s.port.flags ||| (Notice.bayChange b).bit)) ∧
         (r.outcome = .cancelled → y.request d = again ∧ y.tareRetry = x.tareRetry ∧ y.phase = x.phase ∧ y.hold = x.hold ∧
           y.candidate d = x.candidate d ∧ v.port = s.port) ∧
         (r.outcome = .fault → y.request d = none ∧ y.tareRetry = x.tareRetry ∧ y.phase = x.phase ∧ y.hold = x.hold ∧
           y.candidate d = x.candidate d ∧ v.port = s.port ∧ v.weigh = s.weigh)) ∧
  (∀ (s : State) (b : Nat) (x : Bay) (t : Truck), 1 ≤ b → b ≤ 4 → s.findBay b = some x → x.truck = some t →
     let v := s.startRound b
     let lying : List (Nat × Nat) := s.coils.filterMap (fun c => match c.loc with
       | .place (.cradle b' k) => if b' = b then (nth? t.cradles k).map (fun d => (c.reference, d.dist)) else none
       | _ => none)
     let weight : Nat := (lying.map Prod.fst).sum
     let rear := roundDiv ((lying.map (fun p => p.1 * p.2)).sum : Nat) t.bogieDist
     let faulted := s.levelOf b .front = .fault ∨ s.levelOf b .rear = .fault
     let started : Round :=
       { front := weight - rear, rear := rear
         band := ((max s.settings.bayAllowance (weight * s.settings.bayRatio / 1000) : Nat) : Int), frontNet := none, rearNet := none }
     v.coils = s.coils ∧ v.port = s.port ∧ (∀ n, n ≠ b → v.findBay n = s.findBay n) ∧ ∃ y, v.findBay b = some y ∧
       y.round = (if faulted then none else some started) ∧
       (∀ k : Side, s.levelOf b k ≠ .fault → y.request k = some { purpose := .place, retry := 0 }) ∧
       (∀ k : Side, s.levelOf b k = .fault →
         y.request k = if (x.request k).any (fun o => o.purpose == .place) = true then none else x.request k) ∧
       y.frontNet = x.frontNet ∧ y.rearNet = x.rearNet ∧ y.hold = x.hold ∧ y.phase = x.phase ∧ y.plan = x.plan) ∧
  (∀ (s : State) (b : Nat) (d : Side) (x : Bay) (r : ResultRecord), 1 ≤ b → b ≤ 4 → s.findBay b = some x → r.point = d.point b →
     r.purpose = .place →
       let v := s.deliver { requester := .bay b, result := r }
       let net := fun (y : Bay) => match d with | .front => y.frontNet | .rear => y.rearNet
       let held := fun (h : BayHold) => if limit x.hold then x.hold else some h
       let raised : BitVec 44 := if limit x.hold then s.port.flags else s.port.flags ||| (Notice.bayChange b).bit
       v.coils = s.coils ∧ (∀ n, n ≠ b → v.findBay n = s.findBay n) ∧ ∃ y, v.findBay b = some y ∧
         (∀ k, k ≠ d → y.request k = x.request k) ∧ y.phase = x.phase ∧ y.plan = x.plan ∧ y.presence = x.presence ∧
         (r.outcome ≠ .stable → net y = net x) ∧
         (∀ g, r.outcome = .stable → r.sample = some g →
           let round := x.round.map (fun k => match d with
             | .front => { k with frontNet := some g.net }
             | .rear => { k with rearNet := some g.net })
           net y = some g.net ∧ y.request d = none ∧ v.weigh = s.weigh ∧
           (∀ k f w, round = some k → k.frontNet = some f → k.rearNet = some w →
             let deviates := k.band < ((f - k.front).natAbs : Int) ∨ k.band < ((w - k.rear).natAbs : Int)
             y.round = none ∧ y.hold = (if deviates then held .deviation else x.hold) ∧
             v.port.flags = (if deviates then s.port.flags ||| (Notice.bayChange b).bit else s.port.flags)) ∧
           (round = none ∨ (∃ k, round = some k ∧ (k.frontNet = none ∨ k.rearNet = none)) →
             y.round = round ∧ y.hold = x.hold ∧ v.port = s.port)) ∧
         (r.outcome = .unstable ∨ r.outcome = .saturated →
           (r.retry = 0 → y.request d = some { purpose := .place, retry := 1 } ∧ y.round = x.round ∧ y.hold = x.hold ∧
             v.port = s.port) ∧
           (r.retry ≠ 0 → y.request d = none ∧ y.round = none ∧ y.hold = held .unsettled ∧ v.port.flags = raised)) ∧
         (r.outcome = .fault → y.request d = none ∧ y.round = none ∧ y.hold = x.hold ∧ v.port = s.port) ∧
         (r.outcome = .cancelled → y.request d = some { purpose := .place, retry := r.retry } ∧ y.round = x.round ∧
           y.hold = x.hold ∧ v.port = s.port)) ∧
  ∀ (s : State) (id : Nat) (m : Move) (r : ResultRecord), s.findMove id = some m →
    (m.state ≠ .weighing → s.checkResult id r = s) ∧
    (m.state = .weighing →
      (r.outcome = .fault ∨ r.outcome = .saturated → s.checkResult id r = s.holdMove m .weighFault) ∧
      (r.outcome = .unstable → s.checkResult id r = if r.retry = 0 then s.startCheck m 1 else s.holdMove m .unsettled) ∧
      ∀ g c, r.outcome = .stable → r.sample = some g → s.moveCoil m = some c →
        (g.display < 500 → s.checkResult id r = s.holdMove m .weighFault) ∧
        (500 ≤ g.display →
          let meas : Measured :=
            { value := g.display.toNat, crane := m.crane, countA := r.counts.getD 0 0, countB := r.counts.getD 1 0 }
          let tol := max s.settings.allowance (c.recorded * s.settings.ratio / 1000)
          let near := (g.display - c.recorded).natAbs ≤ tol
          let u := s.updCoil c.id (fun k =>
            { k with measured := some meas, verification := if near then .verified else .mismatch })
          (u.judgeTarget m = .pass → near → s.checkResult id r =
            (u.updMove m.id (fun k => { k with state := .carrying, hold := none })).refreshWindow m.crane) ∧
          (u.judgeTarget m = .pass → ¬ near → s.checkResult id r = u.holdMove m .mismatch) ∧
          (u.judgeTarget m ≠ .pass → ¬ near → s.checkResult id r = (u.withdrawTarget m).holdMove m .mismatch) ∧
          (u.judgeTarget m = .unfit → near → s.checkResult id r = (u.withdrawTarget m).holdMove m .destUnfit) ∧
          (u.judgeTarget m = .axle → near → s.checkResult id r = (u.withdrawTarget m).holdMove m .axleLimit)))

/-! ### Bays (chapters 8 and 9) -/

/-- UNHOLD clears a bay's hold and raises BAY_CHANGE; refused for a bay out of range or not defined, with no hold, with a limit
reason, or while a channel of its platforms is in FAULT (R160). DISMISS by R161: in EXPECTING the announcement is withdrawn;
later the WAITING entries are dropped and the phase becomes DISMISSED; in TARING the outstanding TARE requests are withdrawn, a
placement round in progress is abandoned with its outstanding PLACE requests withdrawn, and a PLACE of a round that has ended
stays (R129, R159, R174); hold, tares, security and the PLACED entries stay. Model's choice: the count of a DISMISS in
EXPECTING, and that the allocation of a PLACED coil keeps its index (notes/assumptions/41.md, notes/assumptions/59.md). -/
def Obligations.UnholdAndDismissActOnBay : Prop :=
  (∀ (s : State) (q b : Nat), s.fresh (.unhold q b) → s.LampsShow →
    let i := Instr.unhold q b
    if b < 1 ∨ 4 < b then Refused i s .outOfRange
    else match s.findBay b with
      | none => Refused i s .unknown
      | some x =>
        if x.hold = none ∨ x.hold = some .planLimit ∨ x.hold = some .tareLimit ∨
            ((s.channel (4 + 2 * b)).faulted || (s.channel (5 + 2 * b)).faulted) = true then Refused i s .wrongState
        else Answers i s
          { s.taking with
            bays := s.bays.map (fun y => if y.cfg.num = b then { y with hold := none } else y)
            port := { s.taking.port with flags := s.port.flags ||| (Notice.bayChange b).bit } } .none) ∧
  (∀ (s : State) (q b : Nat), s.fresh (.dismiss q b) →
    let i := Instr.dismiss q b
    if b < 1 ∨ 4 < b then Refused i s .outOfRange
    else match s.findBay b with
      | none => Refused i s .unknown
      | some x =>
        let waiting := x.plan.filter (fun e => e.status == .waiting)
        let withdrawn := fun (v : State) (y : Bay) (p : Purpose) =>
          (∀ o, y.frontRequest = some o ∨ y.rearRequest = some o → o.purpose ≠ p) ∧
          ((∀ r ∈ s.weigh.queue, r.requesters.count (.bay b) ≤ 1) → ∀ r ∈ v.weigh.queue, r.purpose = p →
            r.point = .front b ∨ r.point = .rear b → Requester.bay b ∉ r.requesters)
        if x.phase = .none ∨ x.phase = .dismissed then Refused i s .bayState
        else if x.plan.any (fun e => match e.status with | .moving _ => true | _ => false) = true ∨
            s.moves.recs.any (fun m => m.live && m.source.bind Loc.cradleBay == some b) = true then Refused i s .busy
        else ∃ (v : State) (y : Bay), Settles i s v (.entries waiting.length) ∧ v.findBay b = some y ∧
          (∀ n, n ≠ b → v.findBay n = s.findBay n) ∧
          v.port.flags = s.port.flags ||| (Notice.bayChange b).bit ∧
          v = { s.acting with coils := v.coils, bays := v.bays, weigh := v.weigh, port := { s.taking.port with flags := v.port.flags } } ∧
          y.hold = x.hold ∧ y.security = x.security ∧ y.stale = x.stale ∧ y.presence = x.presence ∧
          y.frontTare = x.frontTare ∧ y.rearTare = x.rearTare ∧ y.lamp = lampOf x.presence y.phase ∧
          (x.phase = .expecting → y.phase = .none ∧ y.truck = none ∧ y.cradles = [] ∧ y.plan = [] ∧ v.weigh = s.acting.weigh ∧
            v.coils = s.coils.map (fun c => if c.id ∈ x.plan.map PlanEntry.coil then { c with alloc := none } else c)) ∧
          (x.phase ≠ .expecting → y.phase = .dismissed ∧ y.truck = x.truck ∧ y.cradles = x.cradles ∧
            y.plan = x.plan.filter (fun e => e.status != .waiting) ∧ y.round = none ∧
            (x.phase = .taring → y.frontCandidate = none ∧ y.rearCandidate = none ∧ withdrawn v y .tare) ∧
            (x.round.isSome = true → withdrawn v y .place) ∧
            (x.round = none → x.phase ≠ .taring → y.frontRequest = x.frontRequest ∧ y.rearRequest = x.rearRequest ∧
              v.weigh = s.acting.weigh) ∧
            v.coils = s.coils.map (fun c => if c.id ∈ waiting.map PlanEntry.coil then { c with alloc := none } else c)))

/-- ANNOUNCE refuses by the first of the checks of R168 that fails: mode, bay and phase, identifier, a truck that stands in
another bay, the ranges of R165 (OUT_OF_RANGE), distances that do not rise (INVALID), cradles outside the bay's zone
(OUT_OF_RANGE), and the first plan entry refused, with its status and number. An entry answers UNKNOWN above the truck's
cradles, INVALID where one before it names its coil or cradle, BAD_IDENT, UNKNOWN, COIL_HELD, ALLOCATED and UNFIT, and passes
exactly when its cradle is the truck's, no entry before it names its coil or cradle, and its coil is well-formed, in the table,
not held, not allocated to another bay, and no wider than the cradle (R168 step 7, R169 step 6). An accepted ANNOUNCE writes
truck, FREE cradles and WAITING entries, allocates each coil of the plan to the bay with the index of its entry, makes the phase
EXPECTING before the truck is PRESENT and TARING else, and raises BAY_CHANGE; presence, hold and every other coil and bay stand
(R10, R155, R168). Entering TARING it places a TARE for each platform with no candidate and no request whose level is not FAULT;
in EXPECTING it places none (R155, R159). Model's choice: the item of a refused entry, a cradle 0, and the retry count of a TARE
(notes/assumptions/42.md, notes/assumptions/60.md, notes/assumptions/68.md). -/
def Obligations.AnnounceMakesTruckAndPlan : Prop :=
  (∀ (s : State) (cradles : List CradleDef) (before : List PlanItem) (own : Option Nat) (e : PlanItem),
    s.entryRefusal cradles before own e = none ↔
      1 ≤ e.cradle ∧ (∀ k ∈ before, k.coil ≠ e.coil ∧ k.cradle ≠ e.cradle) ∧ identOk e.coil = true ∧
      ∃ d c, cradles[e.cradle - 1]? = some d ∧ s.findCoil e.coil = some c ∧ c.hold = false ∧ c.width ≤ d.maxWidth ∧
        ∀ a, c.alloc = some a → own = some a.bay) ∧
  (∀ (s : State) (cradles : List CradleDef) (before : List PlanItem) (own : Option Nat) (e : PlanItem),
    let answers := fun (st : Status) => s.entryRefusal cradles before own e = some st
    (e.cradle = 0 ∨ cradles.length < e.cradle → answers .unknown) ∧
    ∀ d, 1 ≤ e.cradle → cradles[e.cradle - 1]? = some d →
      if before.any (fun k => k.coil == e.coil || k.cradle == e.cradle) = true then answers .invalid
      else if identOk e.coil = false then answers .badIdent
      else match s.findCoil e.coil with
        | none => answers .unknown
        | some c =>
          if c.hold = true then answers .coilHeld
          else if c.alloc.any (fun a => own != some a.bay) = true then answers .allocated
          else d.maxWidth < c.width → answers .unfit) ∧
  (∀ (s : State) (q b : Nat) (t : Truck) (plan : List PlanItem),
    let i := Instr.announce q b t plan
    s.fresh i →
    if s.port.mode = .setup then Refused i s .wrongMode
    else if b < 1 ∨ 4 < b then Refused i s .outOfRange
    else match s.findBay b with
      | none => Refused i s .unknown
      | some x =>
        if x.phase ≠ .none ∧ x.phase ≠ .unannounced then Refused i s .bayState
        else if identOk t.id = false then Refused i s .badIdent
        else if (∃ y ∈ s.bays, y.cfg.num ≠ b ∧ ∃ u, y.truck = some u ∧ u.id = t.id) then Refused i s .duplicate
        else
          let limit := fun (v : Nat) => 1000 ≤ v ∧ v ≤ 60000
          let ranges := 4000 ≤ t.bogieDist ∧ t.bogieDist ≤ 14000 ∧ 1 ≤ t.cradles.length ∧ t.cradles.length ≤ 6 ∧
            (∀ d ∈ t.cradles, 100 ≤ d.dist ∧ d.dist + 100 ≤ t.bogieDist ∧ 500 ≤ d.maxWidth ∧ d.maxWidth ≤ 2200) ∧
            2800 ≤ t.wheelbase ∧ t.wheelbase ≤ 4500 ∧ t.fifthWheel < t.wheelbase ∧ t.fifthWheel ≤ 1000 ∧
            300 ≤ t.steerShare ∧ t.steerShare ≤ 700 ∧ limit t.steerLimit ∧ limit t.driveLimit ∧ limit t.bogieLimit ∧
            1000 ≤ t.grossLimit ∧ t.grossLimit ≤ 150000 ∧ 1 ≤ plan.length ∧ plan.length ≤ 6
          let rising := t.cradles.Pairwise (fun a b => a.dist < b.dist)
          let inZone := ∀ d ∈ t.cradles,
            (s.arbiter.table.bind (fun z => z.zoneAt (x.cfg.kingpin + x.cfg.dir * d.dist))) = some x.cfg.zone
          let entry := fun (k : Nat) (e : PlanItem) => s.entryRefusal t.cradles (plan.take k) none e
          (¬ ranges → Refused i s .outOfRange) ∧ (ranges → ¬ rising → Refused i s .invalid) ∧
          (ranges → rising → ¬ inZone → Refused i s .outOfRange) ∧
          (∀ k e st, ranges → rising → inZone → plan[k]? = some e → entry k e = some st →
            (∀ j a, j < k → plan[j]? = some a → entry j a = none) →
            exec i s = .next (s.taking.respond i { status := st, item := some (.thing .entry (k + 1) none), data := .none })) ∧
          (ranges → rising → inZone → (∀ k e, plan[k]? = some e → entry k e = none) →
            let phase : Phase := if x.phase = .none ∧ (x.presence = .empty ∨ x.presence = .arriving) then .expecting else .taring
            ∃ (v : State) (y : Bay), Settles i s v (.phase phase) ∧ v.findBay b = some y ∧ y.phase = phase ∧ y.truck = some t ∧
              y.plan = plan.map (fun e => ({ coil := e.coil, cradle := e.cradle, status := .waiting } : PlanEntry)) ∧
              y.cradles = List.replicate t.cradles.length { state := .free, blocked := false } ∧
              y.predicted = none ∧ y.frontNet = none ∧ y.rearNet = none ∧ y.presence = x.presence ∧ y.hold = x.hold ∧
              y.lamp = lampOf x.presence phase ∧ (∀ n, n ≠ b → v.findBay n = s.findBay n) ∧
              v.port.flags = s.port.flags ||| (Notice.bayChange b).bit ∧
              (∀ k e, plan[k]? = some e →
                v.findCoil e.coil = (s.findCoil e.coil).map (fun c => { c with alloc := some { bay := b, index := k + 1 } })) ∧
              (∀ id, id ∉ plan.map PlanItem.coil → v.findCoil id = s.findCoil id) ∧
              (phase = .expecting → v.weigh = s.acting.weigh ∧ ∀ d : Side, y.request d = x.request d) ∧
              (phase = .taring → ∀ d : Side,
                let needs := x.candidate d = none ∧ x.request d = none ∧ s.levelOf b d ≠ .fault
                (¬ needs → y.request d = x.request d) ∧
                (needs → y.request d = some { purpose := .tare, retry := 0 } ∧
                  ((∃ r ∈ v.weigh.queue, r.point = d.point b ∧ r.purpose = .tare ∧ Requester.bay b ∈ r.requesters) ∨
                   ∃ k ∈ v.weigh.outbox, k.requester = .bay b ∧ k.result.point = d.point b ∧ k.result.purpose = .tare ∧
                     k.result.outcome = .fault))) ∧
              v = { s.acting with
                coils := v.coils, bays := v.bays, weigh := v.weigh, port := { s.taking.port with flags := v.port.flags } }))

/-- REPLAN by R169: the first entry of the list refused by the entry checks, against the PLACED entries and those before it,
refuses the request with its status; an accepted list follows the PLACED entries as WAITING, the coils that leave the plan lose
their allocation and every coil of the plan has the bay and the index of its entry (R10), a LOADED bay with new entries enters
LOADING, and one left with PLACED entries alone is LOADED; the response gives the result of the plan check of a tared truck.
Model's choice: the item of a refused entry, and which of two entries that name one coil or cradle fails
(notes/assumptions/42.md, notes/assumptions/70.md). -/
def Obligations.ReplanReplacesWaitingEntries : Prop :=
  ∀ (s : State) (q b : Nat) (plan : List PlanItem),
    let i := Instr.replan q b plan
    s.fresh i →
    if s.port.mode = .setup then Refused i s .wrongMode
    else if b < 1 ∨ 4 < b then Refused i s .outOfRange
    else match s.findBay b with
      | none => Refused i s .unknown
      | some x =>
        let placed := x.plan.filter (fun e => e.status == .placed)
        let left := (x.plan.filter (fun e => e.status == .waiting)).map PlanEntry.coil
        if x.phase = .none ∨ x.phase = .unannounced ∨ x.phase = .dismissed then Refused i s .bayState
        else if x.plan.any (fun e => match e.status with | .moving _ => true | _ => false) = true then Refused i s .busy
        else if placed.length + plan.length < 1 ∨ 6 < placed.length + plan.length then Refused i s .outOfRange
        else
          let names := placed.map (fun e => ({ coil := e.coil, cradle := e.cradle } : PlanItem))
          let cradles := (x.truck.map Truck.cradles).getD []
          let entry := fun (k : Nat) (e : PlanItem) => s.entryRefusal cradles (names ++ plan.take k) (some b) e
          (∀ k e st, plan[k]? = some e → entry k e = some st → (∀ j a, j < k → plan[j]? = some a → entry j a = none) →
            Refused i s st) ∧
          ((∀ k e, plan[k]? = some e → entry k e = none) → ∃ (v : State) (y : Bay),
              exec i s = .next (v.settle.respond i
                (Answer.ok (.planResult ((v.settle.findBay b).bind (fun z =>
                  if z.frontTare.isSome && z.rearTare.isSome then z.planCheck else none))))) ∧
              v.findBay b = some y ∧
              y.plan = placed ++ plan.map (fun e => ({ coil := e.coil, cradle := e.cradle, status := .waiting } : PlanEntry)) ∧
              y.phase = (if x.phase = .loaded ∧ plan ≠ [] then .loading
                else if x.phase = .loading ∧ plan = [] then .loaded else x.phase) ∧
              y.truck = x.truck ∧ y.cradles = x.cradles ∧ y.presence = x.presence ∧ y.security = x.security ∧
              y.lamp = lampOf x.presence y.phase ∧
              (x.frontTare = none ∨ x.rearTare = none → y.planCheck = x.planCheck ∧
                (x.planCheck = none → y.hold = x.hold)) ∧
              (∀ t f r, x.truck = some t → x.frontTare = some f → x.rearTare = some r →
                y.planCheck = some (v.planCheck y) ∧
                y.hold = (match v.planCheck y with
                  | .passed => if x.hold = some .planLimit ∨ x.hold = some .tareLimit then
                      (if s.platformFault b then some .platformFault else none) else x.hold
                  | .failed 0 _ => some .tareLimit
                  | .failed _ _ => some .planLimit)) ∧
              (∀ n, n ≠ b → v.findBay n = s.findBay n) ∧
              v.port.flags = s.port.flags ||| (Notice.bayChange b).bit ∧
              (∀ k e, plan[k]? = some e → v.findCoil e.coil =
                (s.findCoil e.coil).map (fun c => { c with alloc := some { bay := b, index := placed.length + k + 1 } })) ∧
              (∀ k e, placed[k]? = some e →
                (∀ j e', j ≠ k → placed[j]? = some e' → e'.coil ≠ e.coil) → v.findCoil e.coil =
                (s.findCoil e.coil).map (fun c => { c with alloc := some { bay := b, index := k + 1 } })) ∧
              (∀ id, id ∉ plan.map PlanItem.coil → id ∉ placed.map PlanEntry.coil → v.findCoil id = (s.findCoil id).map (fun c =>
                if id ∈ left then { c with alloc := none } else c)) ∧
              v = { s.acting with
                coils := v.coils, bays := v.bays, weigh := v.weigh, port := { s.taking.port with flags := v.port.flags } })

/-- An arrival timer that runs out in ARRIVING makes the truck PRESENT: the timer stops, NONE becomes UNANNOUNCED and EXPECTING
TARING, the lamp shows STOP, BAY_CHANGE is raised, and the Zone Arbiter examines its list (R152, R155, R157, R158). Where
EXPECTING becomes TARING a TARE is placed for each platform with no candidate and no request whose level is not FAULT, and
waits, runs or has ended FAULT at once; in any other phase no request is placed (R126, R159). Model's choice: a timer that does
not run has no effect, and the retry count of a TARE (notes/assumptions/21.md, notes/assumptions/68.md). -/
def Obligations.ArrivalMakesTruckPresent : Prop :=
  ∀ (s : State) (bay : Fin 4),
    let b := bay.val + 1
    (s.findBay b = none → exec (.arrivalTimer bay) s = .next s) ∧
    ∀ x, s.findBay b = some x →
      (x.arrival = none ∨ x.presence ≠ .arriving → exec (.arrivalTimer bay) s = .next s) ∧
      (x.arrival.isSome = true → x.presence = .arriving →
        ∃ (v : State) (y : Bay), exec (.arrivalTimer bay) s = .next v.settle ∧ v.findBay b = some y ∧
          y.presence = .present ∧ y.arrival = none ∧ y.departure = none ∧
          y.phase = (match x.phase with | .none => .unannounced | .expecting => .taring | p => p) ∧
          y.lamp = (if x.phase = .dismissed then .depart else .stop) ∧ y.security = x.security ∧ y.hold = x.hold ∧
          y.truck = x.truck ∧ y.plan = x.plan ∧ v.port.flags = s.port.flags ||| (Notice.bayChange b).bit ∧
          (∀ n, n ≠ b → v.findBay n = s.findBay n) ∧
          (x.phase ≠ .expecting → v.weigh = s.beginEvent.weigh ∧ ∀ d : Side, y.request d = x.request d) ∧
          (x.phase = .expecting → ∀ d : Side,
            let needs := x.candidate d = none ∧ x.request d = none ∧ s.levelOf b d ≠ .fault
            (¬ needs → y.request d = x.request d) ∧
            (needs → y.request d = some { purpose := .tare, retry := 0 } ∧
              ((∃ r ∈ v.weigh.queue, r.point = d.point b ∧ r.purpose = .tare ∧ Requester.bay b ∈ r.requesters) ∨
               ∃ k ∈ v.weigh.outbox, k.requester = .bay b ∧ k.result.point = d.point b ∧ k.result.purpose = .tare ∧
                 k.result.outcome = .fault))) ∧
          v = { s.beginEvent with
            bays := v.bays, weigh := v.weigh, port := { s.port with flags := v.port.flags }
            arbiter := { s.arbiter with examine := true } })

/-- At the expiry of a running departure timer the truck has left: its coils leave the table and every other allocation to the
bay is cleared, moves to its cradles are HELD with their target withdrawn, unlifted moves from them end ABORTED, lifted ones
have the hook as their source, and the bay is EMPTY with its phase NONE, its hold cleared and its records gone, its security as
it was; its outstanding TARE and PLACE requests are withdrawn; the DEPARTURE notice carries count and mark (R17, R109, R162). A
move in GRIPPED that is so held or ended adds STRAY_GRIP to its crane, and no other reason changes (R59, R109). Model's choice:
a CANCEL for each move ended in TO_SOURCE and no other (notes/assumptions/23.md), BAY_CHANGE where the presence changes and the
phase was NONE (notes/assumptions/22.md), and no effect of a timer that does not run (notes/assumptions/21.md). -/
def Obligations.DepartureClearsTheBay : Prop :=
  ∀ (s : State) (bay : Fin 4),
    let b := bay.val + 1
    let on := fun (l : Loc) => ∃ k, l = .place (.cradle b k)
    (s.findBay b = none → exec (.departure bay) s = .next s) ∧
    ∀ x, s.findBay b = some x →
      (x.departure = none ∨ x.presence ≠ .departing → exec (.departure bay) s = .next s) ∧
      (x.departure.isSome = true → x.presence = .departing → s.Keyed → s.Within →
        ∃ (v : State) (y : Bay), exec (.departure bay) s = .next v.settle ∧ v.findBay b = some y ∧
          y.presence = .empty ∧ y.phase = .none ∧ y.hold = none ∧ y.lamp = .off ∧ y.truck = none ∧ y.cradles = [] ∧ y.plan = [] ∧
          y.frontTare = none ∧ y.rearTare = none ∧ y.frontCandidate = none ∧ y.rearCandidate = none ∧ y.tareRetry = false ∧
          y.predicted = none ∧ y.frontNet = none ∧ y.rearNet = none ∧ y.round = none ∧ y.security = x.security ∧
          y.stale = x.stale ∧ y.cfg = x.cfg ∧
          (∀ d : Side, y.request d = if (x.request d).any (fun o => o.purpose == .tare || o.purpose == .place) = true then none
            else x.request d) ∧
          ((∀ r ∈ s.weigh.queue, r.requesters.count (.bay b) ≤ 1) → ∀ r ∈ v.weigh.queue, r.purpose = .tare ∨ r.purpose = .place →
            r.point = .front b ∨ r.point = .rear b → Requester.bay b ∉ r.requesters) ∧
          (∀ id c, s.findCoil id = some c → on c.loc → v.findCoil id = none) ∧
          (∀ id c, s.findCoil id = some c → ¬ on c.loc → ∃ c', v.findCoil id = some c' ∧ c'.loc = c.loc ∧
            c'.recorded = c.recorded ∧ c'.measured = c.measured ∧
            c'.alloc = (if c.alloc.any (fun a => a.bay == b) = true then none else c.alloc)) ∧
          (∀ m ∈ s.moves.recs, m.state ≠ .ended → (∃ k, m.target = some (.place (.cradle b k))) →
            (∀ l, m.source = some l → ¬ on l) →
            ∃ m', v.findMove m.id = some m' ∧ m'.state = .held ∧ m'.target = none ∧ m'.offTarget = true ∧
              m'.hold = (if m.state = .held then m.hold else some .truckGone)) ∧
          (∀ m ∈ s.moves.recs, m.state ≠ .ended → (∃ l, m.source = some l ∧ on l) →
            ∃ m', v.findMove m.id = some m' ∧ (s.onHook m = true → m'.source = some (.hook m.crane) ∧ m'.state ≠ .ended) ∧
              (s.onHook m = false → m'.state = .ended ∧ m'.outcome = some .aborted)) ∧
          v.port.flags.getLsbD (Notice.departure b).index = true ∧ v.port.flags.getLsbD (Notice.bayChange b).index = true ∧
          v.port.departures[bay.val]? = some (some
            { retired := (s.coils.filter (fun c => match c.loc with | .place (.cradle b' _) => b' == b | _ => false)).length
              unauthorised := decide (x.phase ≠ .dismissed) }) ∧
          (∀ n, n < 4 → n ≠ bay.val → v.port.departures[n]? = s.port.departures[n]?) ∧ v.arbiter.examine = true ∧
          (let from_ := fun (m : Move) => (∃ l, m.source = some l ∧ on l) ∧ s.onHook m = false
           (∀ n c, s.findCrane n = some c → ∃ k, v.findCrane n = some k ∧ k.raise.overload = c.raise.overload ∧
             k.raise.fault = c.raise.fault ∧
             (k.raise.strayGrip = true ↔ c.raise.strayGrip = true ∨ ∃ m ∈ s.moves.recs, m.crane = n ∧ m.state = .gripped ∧
               ((∃ k, m.target = some (.place (.cradle b k))) ∨ from_ m))) ∧
           (∀ n l, nth? s.links n = some l → ∃ l', nth? v.links n = some l' ∧
             let asked := fun (l : Link) (id : Nat) => .cancel id ∈ l.waiting ∨ ∃ q, l.sending = some (q, .cancel id)
             ∀ id, asked l' id ↔ asked l id ∨ ∃ m ∈ s.moves.recs, m.id = id ∧ m.crane = n ∧ m.state = .toSource ∧ from_ m)))

/-- The CHOCK and CLEAR lines of a bay are taken whether it is defined or not; a rise or fall changes security and stale-clear
marker of a defined bay by the table of R156, raises BAY_CHANGE where one of them changes, and is handed on where the security
changes (R156, R157). Model's choice: a command stands for a level held for 50 ms, and one that names the level already taken
changes nothing (notes/assumptions/44.md). -/
def Obligations.LinesChangeSecurity : Prop :=
  ∀ (s : State) (bay : Fin 4) (high : Bool) (l : BayLines), s.LampsShow → s.Keyed →
    s.lines[bay.val]? = some l →
    let b := bay.val + 1
    let outcome := fun (i : Instr) (l' : BayLines) (turn : Bay → Security × Bool) =>
      let u : State := { s.beginEvent with lines := s.lines.set bay.val l' }
      match s.findBay b with
      | none => exec i s = .next u.settle
      | some x =>
        let r := turn x
        exec i s = .next ({ u with
          bays := s.bays.map (fun y => if y.cfg.num = b then { y with security := r.1, stale := r.2 } else y)
          port := { s.port with
            flags := if r = (x.security, x.stale) then s.port.flags else s.port.flags ||| (Notice.bayChange b).bit }
          arbiter := { s.arbiter with examine := s.arbiter.examine || decide (r.1 ≠ x.security) } } : State).settle
    outcome (.chockLine bay high) { l with chock := high } (fun x =>
      if l.chock = high then (x.security, x.stale)
      else match high, x.security with
        | true, .open => (.chocked, l.clear)
        | false, .chocked => (.open, false)
        | false, .secured => (.open, false)
        | _, k => (k, x.stale)) ∧
    outcome (.clearLine bay high) { l with clear := high } (fun x =>
      if l.clear = high then (x.security, x.stale)
      else match high, x.security with
        | true, .chocked => if x.stale then (.chocked, true) else (.secured, false)
        | false, .chocked => (.chocked, false)
        | false, .secured => (.chocked, x.stale)
        | _, k => (k, x.stale))

/-! ### Mode, layout, settings and resets -/

/-- MODE SETUP and MODE RUN in the mode they name change nothing; MODE SETUP is refused with BUSY while a move is live or a load
is not FREE, and MODE RUN with INVALID, naming an item, unless the whole unit passes its checks; each otherwise changes the mode
and the SETUP reason of every crane, and nothing else (R24, R44, R64, R112, R179, R182). -/
def Obligations.ModeChangesByItsChecks : Prop :=
  ∀ (s : State) (q : Nat),
    let changed := fun (m : Mode) => ({ s.taking with
      port := { s.taking.port with mode := m }
      cranes := s.cranes.map (fun c => { c with travel := { c.travel with setup := decide (m = .setup) } }) } : State)
    let configured := fun (ch : Nat) => (s.channel ch).state ≠ .unconfigured
    let ready : Prop :=
      (∃ t, s.arbiter.table = some t ∧
        (∀ z ∈ t.zones, ∀ b, z.kind = .bay b → (s.findBay b).isSome = true) ∧
        (∀ x ∈ s.bays, ∃ z, t.zone? x.cfg.zone = some z ∧ z.kind = .bay x.cfg.num) ∧
        (∀ c ∈ s.cranes, 2 * c.halfLength ≤ t.length)) ∧
      s.store.rows ≠ [] ∧ s.store.saddles ≠ [] ∧
      (∀ row ∈ s.store.rows, s.kindAt row.cfg.x = some .store ∧
        (∀ p ∈ row.places, ∀ x id c, s.findPlace p = some x → x.state.coil? = some id → s.findCoil id = some c →
          s.fits none p c = true) ∧
        ∀ g, 1 ≤ g → g ≤ row.floors.length → s.floorLoad row.cfg.num g ≤ 2 * row.cfg.floorLimit) ∧
      (∀ d ∈ s.store.saddles, s.kindAt d.cfg.x = some .entry) ∧ s.cranes ≠ [] ∧ (∃ c ∈ s.channels, c.state ≠ .unconfigured) ∧
      ∀ ch < 14, match pointOfChannel ch with
        | .hoist n => (s.findCrane n).isSome = true → configured ch
        | .front b => (s.findBay b).isSome = true → configured ch
        | .rear b => (s.findBay b).isSome = true → configured ch
    (s.fresh (.modeSetup q) →
      let i := Instr.modeSetup q
      if s.port.mode = .setup then Answers i s s.taking .none
      else if (∃ m ∈ s.moves.recs, m.state ≠ .ended) ∨ (∃ c ∈ s.cranes, c.load ≠ .free) then Refused i s .busy
      else Answers i s (changed .setup) .none) ∧
    (s.fresh (.modeRun q) →
      let i := Instr.modeRun q
      (s.port.mode = .run → Answers i s s.taking .none) ∧
      (s.port.mode = .setup → ready → Answers i s (changed .run) .none) ∧
      (s.port.mode = .setup → ¬ ready → ∃ item, exec i s =
        .next (s.taking.respond i { status := .invalid, item := some item, data := .none })))

/-- LAYOUT is refused in RUN, returns the five sections where it carries none, and is otherwise refused as a whole or applied as
a whole. A zone, crane, store, bay or channel section passes exactly when it keeps the ranges and conditions of its rule, and a
store section only where every coil in the store keeps a place that fits it; each section applied replaces its old definition,
the places of the new store take over what stood at the same places, and a section not carried stands (R20 to R23, R44, R62,
R112, R135, R150, R180). Model's choice: the order of checks and of effects, channels not named, and an empty section returned
as absent (notes/assumptions/9.md, notes/assumptions/10.md, notes/assumptions/11.md, notes/assumptions/57.md), that a section
with no rows, no saddles or a row, saddle or channel number out of range is refused as out of range (notes/assumptions/73.md),
and that a zone number above the count is refused (notes/assumptions/74.md). -/
def Obligations.LayoutChecksAndReplaces : Prop :=
  (∀ z : ZoneSection, zoneSectionFail z = none ↔
    20000 ≤ z.length ∧ z.length ≤ 200000 ∧ 2 ≤ z.count ∧ z.count ≤ 32 ∧
    (z.zones.map ZoneDef.num).Nodup ∧ (∀ n, n ∈ z.zones.map ZoneDef.num ↔ 1 ≤ n ∧ n ≤ z.count) ∧
    (∀ a ∈ z.zones, a.num = 1 → a.start = 0) ∧
    (∀ a ∈ z.zones, ∀ b ∈ z.zones, b.num = a.num + 1 → a.start + 2000 ≤ b.start) ∧
    (∀ a ∈ z.zones, a.num = z.count → a.start + 2000 ≤ z.length) ∧
    (∀ a ∈ z.zones, ∀ b, a.kind = .bay b → 1 ≤ b ∧ b ≤ 4 ∧ ∀ a' ∈ z.zones, a'.kind = .bay b → a'.num = a.num)) ∧
  (∀ k : CraneSection, craneSectionFail k = none ↔
    1 ≤ k.count ∧ k.count ≤ 3 ∧ (k.cranes.map CraneDef.num).Nodup ∧
    (∀ n, n ∈ k.cranes.map CraneDef.num ↔ 1 ≤ n ∧ n ≤ k.count) ∧
    ∀ d ∈ k.cranes, 1000 ≤ d.halfLength ∧ d.halfLength ≤ 8000 ∧ d.tare ≤ 10000) ∧
  (∀ (s : State) (l : List BayDef), s.baySectionFail l = none ↔
    (l.map BayDef.num).Nodup ∧
    (∀ d ∈ l, 1 ≤ d.num ∧ d.num ≤ 4 ∧ 1 ≤ d.zone ∧ d.zone ≤ 32 ∧ d.kingpin ≤ 200000 ∧ (d.dir = 1 ∨ d.dir = -1) ∧ d.y ≤ 60000) ∧
    ∀ x ∈ s.bays, x.phase ≠ .none ∨ x.presence ≠ .empty → x.cfg ∈ l) ∧
  (∀ l : List ChanDef, chanSectionFail l = none ↔
    (l.map ChanDef.num).Nodup ∧
    (∀ d ∈ l, d.num ≤ 13 ∧ 1 ≤ d.cfg.order ∧ d.cfg.order ≤ 4 ∧ 4 ≤ d.cfg.decim ∧ d.cfg.decim ≤ 256 ∧ 1 ≤ d.cfg.integ ∧
      d.cfg.integ ≤ 256 ∧ d.cfg.shift ≤ 24 ∧ 1 ≤ d.cfg.fastOrder ∧ d.cfg.fastOrder ≤ 3 ∧ 4 ≤ d.cfg.fastDecim ∧
      d.cfg.fastDecim ≤ 128 ∧ d.cfg.integ * d.cfg.decim ^ d.cfg.order ≤ 2 ^ 30 ∧
      ∃ j, d.cfg.integ * d.cfg.decim ^ d.cfg.order = d.cfg.fastDecim ^ d.cfg.fastOrder * 2 ^ (d.cfg.shift + j)) ∧
    ∀ d ∈ l, ∀ d' ∈ l, d.num < 6 → d.num / 2 = d'.num / 2 → d.cfg = d'.cfg) ∧
  (∀ (s : State) (d : StoreSection), s.storeSectionFail d = none ↔
    d.rows ≠ [] ∧ (d.rows.map RowDef.num).Nodup ∧
    (∀ r ∈ d.rows, 1 ≤ r.num ∧ r.num ≤ 48 ∧ r.x ≤ 200000 ∧ r.y0 ≤ 60000 ∧ 800 ≤ r.pitch ∧ r.pitch ≤ 3000 ∧ r.pitch % 2 = 0 ∧
      1 ≤ r.count ∧ r.count ≤ 20 ∧ r.y0 + (r.count - 1) * r.pitch ≤ 60000 ∧ r.classes ≠ 0 ∧
      500 ≤ r.maxWidth ∧ r.maxWidth ≤ 2200 ∧ 600 ≤ r.maxDiameter ∧ r.maxDiameter ≤ 2400 ∧ r.maxDiameter ≤ r.pitch ∧
      5000 ≤ r.floorLimit ∧ r.floorLimit ≤ 100000 ∧ 50 ≤ r.bearing ∧ r.bearing ≤ 200 ∧ r.mismatch ≤ 600 ∧ r.penalty ≤ 1000) ∧
    d.saddles ≠ [] ∧ (d.saddles.map SaddleDef.num).Nodup ∧
    (∀ x ∈ d.saddles, 1 ≤ x.num ∧ x.num ≤ 4 ∧ x.x ≤ 200000 ∧ x.y ≤ 60000) ∧
    let new : State := { s with store := s.newStore d }
    ∀ p x id c, (∀ b k, p ≠ .cradle b k) → s.findPlace p = some x → x.state.coil? = some id → s.findCoil id = some c →
      (new.findPlace p).isSome = true ∧ new.fits none p c = true) ∧
  ∀ (s : State) (q : Nat) (body : LayoutBody),
    let i := Instr.layout q body
    let none5 := body.zone = none ∧ body.crane = none ∧ body.store = none ∧ body.bay = none ∧ body.channel = none
    s.fresh i →
    (s.port.mode = .run → Refused i s .wrongMode) ∧
    (s.port.mode = .setup → none5 → Answers i s s.taking (.layout
      { zone := s.arbiter.table.map (fun t =>
          { length := t.length, count := t.zones.length, policy := some s.arbiter.policy
            zones := t.zones.zipIdx.map (fun z => { num := z.2 + 1, start := z.1.start, kind := z.1.kind }) })
        crane := if s.cranes = [] then none else some
          { count := s.cranes.length
            cranes := s.cranes.map (fun c => { num := c.num, halfLength := c.halfLength, tare := c.tare }) }
        store := if s.store.rows = [] then none else some
          { rows := s.store.rows.map Row.cfg, saddles := s.store.saddles.map Saddle.cfg }
        bay := if s.bays = [] then none else some (s.bays.map Bay.cfg)
        channel := if s.channels.all (fun c => c.cfg.isNone) = true then none else
          some (s.channels.zipIdx.filterMap (fun c => c.1.cfg.map (fun k => { num := c.2, cfg := k }))) })) ∧
    (s.port.mode = .setup → ¬ none5 →
      (body.zone.bind zoneSectionFail ≠ none ∨ body.crane.bind craneSectionFail ≠ none ∨
        body.store.bind s.storeSectionFail ≠ none ∨ body.bay.bind s.baySectionFail ≠ none ∨
        body.channel.bind chanSectionFail ≠ none →
          ∃ a : Answer, (a.status = .outOfRange ∨ a.status = .invalid) ∧ a.item.isSome = true ∧
            exec i s = .next (s.taking.respond i a)) ∧
      (body.zone.bind zoneSectionFail = none → body.crane.bind craneSectionFail = none →
        body.store.bind s.storeSectionFail = none → body.bay.bind s.baySectionFail = none →
        body.channel.bind chanSectionFail = none →
          ∃ v : State, Settles i s v .none ∧
            v.coils = s.coils ∧ v.moves = s.moves ∧ v.calib = s.calib ∧ v.settings = s.settings ∧ v.port.mode = .setup ∧
            (∀ z, body.zone = some z → v.arbiter.policy = z.policy.getD .age ∧ ∃ t, v.arbiter.table = some t ∧
              t.length = z.length ∧ t.zones.length = z.count ∧ (∀ rec ∈ t.zones, rec.state = .open ∧ rec.owner = none) ∧
              ∀ d ∈ z.zones, ∃ rec, t.zone? d.num = some rec ∧ rec.start = d.start ∧ rec.kind = d.kind) ∧
            (body.zone = none → body.crane = none → v.arbiter.table = s.arbiter.table ∧ v.arbiter.policy = s.arbiter.policy) ∧
            (∀ k, body.crane = some k → v.cranes.length = k.count ∧ ∀ d ∈ k.cranes, ∃ c, v.findCrane d.num = some c ∧
              c.halfLength = d.halfLength ∧ c.tare = d.tare ∧
              (∀ old, s.findCrane d.num = some old → c.tongs = old.tongs ∧ c.load = old.load)) ∧
            (body.zone ≠ none ∨ body.crane ≠ none → ∀ c ∈ v.cranes, c.tracking = .unknown ∧ c.run = none ∧ c.window = none) ∧
            (body.crane = none → v.cranes.map (fun c => (c.num, c.halfLength, c.tare)) =
              s.cranes.map (fun c => (c.num, c.halfLength, c.tare))) ∧
            (∀ d, body.store = some d →
              let takes := fun (p : PlaceRef) (defined : Bool) => v.findPlace p =
                if defined = true then some ((s.findPlace p).getD { state := .free, blocked := false }) else none
              v.store = s.newStore d ∧ (v.store.rows.map Row.cfg).Perm d.rows ∧ (v.store.saddles.map Saddle.cfg).Perm d.saddles ∧
              v.RowsRise ∧
              (∀ r g, takes (.floor r g) (d.rows.any (fun x => x.num == r && decide (1 ≤ g ∧ g ≤ x.count)))) ∧
              (∀ r u, takes (.nest r u) (d.rows.any (fun x => x.num == r && x.nests && decide (1 ≤ u ∧ u + 1 ≤ x.count)))) ∧
              ∀ n, takes (.entry n) (d.saddles.any (fun x => x.num == n))) ∧
            (body.store = none → v.store = s.store) ∧
            (∀ l, body.bay = some l → (v.bays.map Bay.cfg).Perm l ∧ (∀ d ∈ l, (∀ x ∈ s.bays, x.cfg ≠ d) →
                ∃ y, v.findBay d.num = some y ∧ y.cfg = d ∧ y.phase = .none ∧ y.presence = .empty ∧ y.truck = none ∧ y.plan = []) ∧
              (body.channel = none → ∀ n x, s.findBay n = some x → x.cfg ∈ l → v.findBay n = some x)) ∧
            (body.bay = none → body.channel = none → v.bays = s.bays) ∧
            (∀ l, body.channel = some l → ∀ ch < 14, match l.find? (fun d => d.num == ch) with
              | some d => (v.channel ch).state = .running ∧ (v.channel ch).cfg = some d.cfg
              | none => (v.channel ch).state = .unconfigured) ∧
            (body.channel = none → v.channels = s.channels)))

/-- SETTINGS with no setting named returns every setting. Otherwise each value is judged by the table of R181 and the ranges of
its rule: clamped where the rule clamps it, and one wrong value, or E and A in the wrong order, refuses the whole request; the
values taken act together, and a new position tolerance recomputes every window (R45, R80, R118, R140 to R142, R152, R175,
R181). Model's choice: a setting named twice (notes/assumptions/35.md), and 1 for on and 0 for off as the values of auto-yield
(notes/assumptions/85.md). -/
def Obligations.SettingsReplaceTogether : Prop :=
  let rule : SettingKey → Nat × Nat × Bool := fun k => match k with
    | .freshness => (100, 2000, true)
    | .tolerance => (50, 500, false)
    | .autoYield => (0, 1, false)
    | .stuckRun => (16, 255, false)
    | .overload => (1000, 60000, false)
    | .slack => (0, 5000, false)
    | .arrivalThreshold => (500, 10000, false)
    | .emptyThreshold => (100, 5000, false)
    | .slackTime => (100, 1000, true)
    | .settleTimeout => (500, 10000, true)
    | .division _ => (5, 50, false)
    | .window => (2, 16, false)
    | .band => (0, 3, false)
    | .allowance => (0, 2000, false)
    | .ratio => (0, 50, false)
    | .arrivalTime => (1, 10, true)
    | .departureTime => (1, 30, true)
    | .bayAllowance => (0, 2000, false)
    | .bayRatio => (0, 100, false)
  ∀ (s : State) (q : Nat) (items : List SettingItem), s.Within → s.Keyed →
    let i := Instr.settings q items
    let taken := fun (x : SettingItem) =>
      if (rule x.key).2.2 = true then max (rule x.key).1 (min (rule x.key).2.1 x.value) else x.value
    let value := fun (k : SettingKey) => match (items.filter (fun x => x.key == k)).getLast? with
      | some x => taken x
      | none => settingOf s.settings k
    let wrong := fun (x : SettingItem) =>
      ((rule x.key).2.2 = false ∧ (x.value < (rule x.key).1 ∨ (rule x.key).2.1 < x.value)) ∨
      (∃ wp, x.key = .division wp ∧ (wp.valid = false ∨ (x.value ≠ 5 ∧ x.value ≠ 10 ∧ x.value ≠ 20 ∧ x.value ≠ 50))) ∨
      ((x.key = .emptyThreshold ∨ x.key = .arrivalThreshold) ∧ value .arrivalThreshold ≤ value .emptyThreshold)
    s.fresh i →
    (items = [] → Answers i s s.taking
      (.settings (allSettings.map (fun k => { key := k, value := settingOf s.settings k, clamped := false })))) ∧
    ((∃ x ∈ items, wrong x) → Refused i s .outOfRange) ∧
    (items ≠ [] → (∀ x ∈ items, ¬ wrong x) → ∃ v : State, Settles i s v
        (.settings (items.map (fun x => { key := x.key, value := value x.key, clamped := decide (taken x ≠ x.value) }))) ∧
      (∀ k ∈ allSettings, settingOf v.settings k = value k) ∧
      v = { s.acting with
        settings := v.settings, cranes := v.cranes, links := v.links, port := { s.taking.port with flags := v.port.flags } } ∧
      (value .tolerance = s.settings.tolerance → v.cranes = s.cranes ∧ v.links = s.links ∧ v.port.flags = s.port.flags) ∧
      (value .tolerance ≠ s.settings.tolerance → ∀ c ∈ v.cranes, c.window = v.windowOf c))

/-- Power-on reset brings every block to its reset values but keeps the Calibration Store (R144, R183); the commands that wait
keep waiting (model's choice, notes/assumptions/3.md; TAREs of a platform that does not run, notes/assumptions/67.md; a platform
at level FAULT whose PLACE is awaited, notes/assumptions/80.md; a presence frozen at ARRIVING or DEPARTING,
notes/assumptions/87.md). RESTART empties the moves with MOVE_ENDED for each crane that had a live one, clears the move fields,
unwinds the reservations, brings every crane into UNKNOWN with no run and no window, leaves every zone unowned, takes every
bay's security from its lines, and keeps channels, calibrations, settings, mode and mask. The weigh queue is emptied: a READ,
ZERO or SPAN that runs writes a CANCELLED record to the slot of its weigh point, unread, with WEIGH_READY, ZERO and SPAN as
NOT_STORED, and no other slot changes. A bay takes ARRIVING back to EMPTY and DEPARTING to PRESENT with its timers stopped and,
unless it is frozen, judges its levels afresh; a round still in progress places its missing PLACEs again with their retry
counts, or ends where such a platform has level FAULT, and a bay in TARING places the TAREs it needs on the platforms that run
(R19, R43, R61, R83, R111, R132, R156, R164, R176, R183). -/
def Obligations.ResetsLeaveWhatTheyLeave : Prop :=
  (∀ s : State, exec .powerOnReset s = .next { State.reset with calib := s.calib, pending := s.pending }) ∧
  ∀ (s : State) (q : Nat), s.fresh (.restart q) → s.Keyed → s.Within →
    let hosted := fun (r : WeighRequest) => r.purpose = .read ∨ r.purpose = .zero ∨ r.purpose = .span
    let unwound : Place → Place := fun p => { p with state := match p.state with
      | .incoming _ _ => .free
      | .outgoing _ c => .occupied c
      | .vacated _ => .free
      | st => st }
    ∃ v : State, Settles (.restart q) s v (.count (s.moves.recs.filter (fun m => m.state != .ended)).length) ∧
      v.moves = { s.moves with recs := [] } ∧ v.coils = s.coils.map (fun c => { c with move := none }) ∧
      (∀ p, v.findPlace p = (s.findPlace p).map unwound) ∧
      v.arbiter.requests = [] ∧ v.arbiter.lastGranted = 0 ∧ v.arbiter.nextArrival = 1 ∧ v.arbiter.policy = s.arbiter.policy ∧
      v.arbiter.table = s.arbiter.table.map (fun t => ({ t with zones := t.zones.map (fun z =>
        { z with owner := none, state := if z.state = .shutting then .shut else z.state }) } : ZoneTable)) ∧
      (∀ n c, s.findCrane n = some c → v.findCrane n = some
        { c with
          tracking := .unknown, run := none, window := none, fresh := none, slack := none
          travel := { setup := decide (s.port.mode = .setup), unknown := true, lost := false, breach := false, bay := false } }) ∧
      (∀ l ∈ v.links, ∀ m ∈ l.waiting, m = .window none) ∧
      v.channels = s.channels ∧ v.calib = s.calib ∧ v.settings = s.settings ∧ v.lines = s.lines ∧
      v.switchClosed = s.switchClosed ∧ v.port.mode = s.port.mode ∧ v.port.mask = s.port.mask ∧
      v.port.dropped = s.port.dropped ∧ v.links.map Link.dropped = s.links.map Link.dropped ∧
      (∀ k, s.port.flags.getLsbD k = true → v.port.flags.getLsbD k = true) ∧
      (∀ n, 1 ≤ n → n ≤ 3 → s.queue n ≠ [] → v.port.flags.getLsbD (Notice.moveEnded n).index = true) ∧
      (∀ n c, 1 ≤ n → n ≤ 3 → s.findCrane n = some c → c.tracking ≠ .unknown →
        v.port.flags.getLsbD (Notice.craneState n).index = true) ∧
      (∀ r ∈ v.weigh.queue, (r.purpose = .tare ∨ r.purpose = .place) ∧
        ∀ k ∈ r.requesters, ∃ b, k = .bay b ∧ (r.point = .front b ∨ r.point = .rear b)) ∧
      (s.EnginesLaw → ∀ r ∈ s.weigh.queue, r.run.isSome = true → hosted r → r.point.valid = true →
        v.port.flags.getLsbD Notice.weighReady.index = true ∧
        ∃ p d, v.point r.point = { p with slot := some d, unread := true } ∧ p = s.point r.point ∧ d.point = r.point ∧
          d.purpose = r.purpose ∧ d.outcome = .cancelled ∧ d.sample = r.run.bind (fun e => e.samples.head?) ∧
          d.verdict = (if r.purpose = .read then none else some .notStored) ∧ d.stored = none) ∧
      (∀ wp, wp.valid = true → (∀ r ∈ s.weigh.queue, r.run.isSome = true → hosted r → r.point ≠ wp) → v.point wp = s.point wp) ∧
      (∀ b x, s.findBay b = some x → ∃ y, v.findBay b = some y ∧ y.frozen = x.frozen ∧ y.hold = x.hold ∧
        (let high := s.levelOf b .front = .high ∨ s.levelOf b .rear = .high
         let low := s.levelOf b .front = .low ∧ s.levelOf b .rear = .low
         let empty := x.presence = .empty ∨ x.presence = .arriving
         y.presence = (if empty then (if x.frozen = false ∧ high then .arriving else .empty)
           else if x.frozen = false ∧ low then .departing else .present) ∧
         y.arrival = (if y.presence = .arriving then some (1000 * s.settings.arrivalTime) else none) ∧
         y.departure = (if y.presence = .departing then some (1000 * s.settings.departureTime) else none)) ∧
        (let net := fun (r : Round) (d : Side) => match d with | .front => r.frontNet | .rear => r.rearNet
         let stopped := fun (r : Round) (d : Side) => (net r d).isNone && decide (s.levelOf b d = .fault)
         y.round = x.round.filter (fun r => !(stopped r .front || stopped r .rear)) ∧
         ∀ d : Side, y.request d =
           if x.round.any (fun r => net r d == none) = true ∧ s.levelOf b d ≠ .fault then
             some { purpose := .place, retry := ((x.request d).map Outstanding.retry).getD 0 }
           else if x.phase = .taring ∧ x.candidate d = none ∧ s.levelOf b d ≠ .fault ∧ s.pointRunning (d.point b) = true then
             some { purpose := .tare, retry := 0 }
           else none)) ∧
      (∀ b x l, 1 ≤ b → s.findBay b = some x → s.lines[b - 1]? = some l → ∃ y, v.findBay b = some y ∧ y.cfg = x.cfg ∧
        y.phase = x.phase ∧ y.truck = x.truck ∧ y.security = (if l.chock then .chocked else .open) ∧
        y.stale = (l.chock && l.clear) ∧ y.plan = x.plan.map (fun e => match e.status with
          | .moving _ => { e with status := .waiting }
          | _ => e))

/-! ### Axle loads (chapter 9) -/

/-- The predicted loads of a truck over its counted coils: the bogie share is the sum of weight times distance over the bogie
distance, what is left goes to the fifth wheel and of it the part f over W to the steer axle, each rounded half-out, and with
the tares the three sum exactly to tares and weights (R171). A coil counts, once, at a cradle where it lies, or that its live
move has as its target while it hangs on a hook, with its reference weight and the cradle's distance (R171). A coil counted in
addition lowers none of the loads (R172). The plan check of a tared bay passes exactly where no part of its plan, from none of
its entries to all, exceeds a limit, and else names the first part that does with the first of its figures (R173). -/
def Obligations.PredictedLoadsSumAndRise : Prop :=
  (∀ (t : Truck) (f r : Int) (l : List Counted),
    let p := predict t f r l
    let weight : Nat := (l.map Counted.weight).sum
    let moment : Nat := (l.map (fun k => k.weight * k.dist)).sum
    let share := roundDiv moment t.bogieDist
    let steer := roundDiv ((weight - share) * t.fifthWheel) t.wheelbase
    let steerTare := roundDiv (f * t.steerShare) 1000
    p.bogie = r + share ∧ p.steer = steerTare + steer ∧ p.drive = (f - steerTare) + ((weight - share) - steer) ∧
      p.steer + p.drive + p.bogie = f + r + weight) ∧
  (∀ (s : State) (x : Bay) (e : Option Ident), ∃ l : List (Coil × CradleDef),
    (l.map Prod.fst).Sublist s.coils ∧ s.counted x e = l.map (fun k => { weight := k.1.reference, dist := k.2.dist }) ∧
    ∀ c d, (c, d) ∈ l ↔ c ∈ s.coils ∧ e ≠ some c.id ∧ ∃ t k, x.truck = some t ∧ nth? t.cradles k = some d ∧
      s.CountsAt c x.cfg.num k) ∧
  (∀ (t : Truck) (f r : Int) (l : List Counted) (k : Counted), 0 < t.bogieDist → 0 < t.wheelbase → t.fifthWheel ≤ t.wheelbase →
    (∀ c ∈ k :: l, c.dist ≤ t.bogieDist) →
    let p := predict t f r l
    let p' := predict t f r (k :: l)
    p.steer ≤ p'.steer ∧ p.drive ≤ p'.drive ∧ p.bogie ≤ p'.bogie) ∧
  ∀ (s : State) (x : Bay) (t : Truck) (f r : Int), x.truck = some t → x.frontTare = some f → x.rearTare = some r →
    let part := fun (k : Nat) => predict t f r ((x.plan.take k).filterMap (fun e => match s.findCoil e.coil, nth? t.cradles e.cradle with
      | some c, some d => some { weight := c.reference, dist := d.dist }
      | _, _ => none))
    let exceeds := fun (k : Nat) (g : AxleFigure) =>
      let p := part k
      let steer := (t.steerLimit : Int) < p.steer
      let drive := (t.driveLimit : Int) < p.drive
      let bogie := (t.bogieLimit : Int) < p.bogie
      let gross := (t.grossLimit : Int) < p.steer + p.drive + p.bogie
      (g = .steer ∧ steer) ∨ (g = .drive ∧ ¬ steer ∧ drive) ∨ (g = .bogie ∧ ¬ steer ∧ ¬ drive ∧ bogie) ∨
        (g = .gross ∧ ¬ steer ∧ ¬ drive ∧ ¬ bogie ∧ gross)
    (s.planCheck x = .passed ↔ ∀ k ≤ x.plan.length, ∀ g, ¬ exceeds k g) ∧
    ∀ k g, s.planCheck x = .failed k g ↔ k ≤ x.plan.length ∧ exceeds k g ∧ ∀ j < k, ∀ h, ¬ exceeds j h

/-! ### What every step keeps -/

/-- The reset state keeps every law stated below, and nothing in it is left to follow. -/
def Obligations.ResetKeepsEveryLaw : Prop :=
  State.reset.Within ∧ State.reset.Keyed ∧ State.reset.LampsShow ∧ State.reset.RunwayLaw ∧ State.reset.EnginesLaw ∧
    State.reset.TravelLaw ∧ State.reset.QueueLaw ∧ State.reset.RowsRise ∧ State.reset.Settled

/-- Every step keeps every table within its capacity and its keys apart, the rows of the store in rising order of number (R20,
R38), and every lamp at the aspect of R158. -/
def Obligations.StepKeepsTablesAndLamps : Prop :=
  ∀ s t : State, step s = .next t →
    (s.Within → t.Within) ∧ (s.Within → s.Keyed → t.Keyed) ∧ (s.RowsRise → t.RowsRise) ∧ (s.LampsShow → t.LampsShow)

/-- Every step keeps the ownership law: a crane owns exactly the zones of its run, no zone has two owners, and every zone of a
lower-numbered crane lies west of every zone of a higher-numbered one (R65, R78). -/
def Obligations.StepKeepsRunwayLaw : Prop :=
  ∀ s t : State, s.Keyed → s.RunwayLaw → step s = .next t → t.RunwayLaw

/-- Every step keeps the law of the engines: no weigh point and no engine has two running requests (R126). -/
def Obligations.StepKeepsEnginesLaw : Prop :=
  ∀ s t : State, s.EnginesLaw → step s = .next t → t.EnginesLaw

/-- After every step each travel inhibit reason of each crane is present exactly while its condition holds (R58), no result
waits to be handed on, no examination is due, and each bay's predicted loads are those over its counted coils while its truck is
tared (R171). The end of an event does this: each result on its way is handed to its requester in turn, with none left an
examination that is due is made, and so on; then the predictions are computed and the BAY reasons judged. Model's choice: the
order in which results and examinations follow, and one examination for all its causes (notes/assumptions/14.md,
notes/assumptions/34.md, notes/assumptions/77.md, notes/assumptions/82.md). -/
def Obligations.StepKeepsTravelLaw : Prop :=
  (∀ s : State,
    let one := fun (u : State) => match u.weigh.outbox with
      | d :: rest => ({ u with weigh := { u.weigh with outbox := rest } } : State).deliver d
      | [] => if u.arbiter.examine = true then u.examination else u
    ∃ k,
      let w := Nat.iterate one k s
      s.settle = { w with
        bays := w.bays.map (fun x => { x with predicted := match x.truck, x.frontTare, x.rearTare with
          | some t, some f, some r => some (predict t f r (w.counted x none))
          | _, _, _ => none })
        cranes := w.cranes.map (fun c => { c with travel := { c.travel with bay := w.bayReason c } }) } ∧
      (s.Keyed → s.cranes.length ≤ 3 → s.arbiter.requests.Pairwise (fun a b => a.crane ≠ b.crane) →
        w.weigh.outbox = [] ∧ w.arbiter.examine = false)) ∧
  ∀ s t : State, s.Keyed → step s = .next t → (s.TravelLaw → t.TravelLaw) ∧ (s.Settled → t.Settled)

/-- Every step keeps the law of the queues: at most 8 live moves on a crane, at most one of them urgent, and no zone entry
without its live move (R69, R85). -/
def Obligations.StepKeepsQueueLaw : Prop :=
  ∀ s t : State, s.Within → s.Keyed → s.QueueLaw → step s = .next t → t.QueueLaw

/-! ### Frames (chapter 10) -/

/-- The octets of the frame of a well-formed request, taken by a receiver that holds none, give that frame whole and leave none
held, and spell that request and no other, every operand at every value its octets admit; and so do those of a crane's message
(R177, R185, R186). Every command but those that stand for a frame no block takes, for a power-on reset, and for what happens on
other lines is a request with a frame, and the crane messages are POSITION and the four grab events. Model's choice: record
layouts that the spec gives only by its conventions (notes/assumptions/31.md, notes/assumptions/32.md). -/
def Obligations.FramesSpellTheirCommands : Prop :=
  (∀ (i : Instr) (f : Frame), i.wellFormed = true → requestFrame i = some f → f.body.length ≤ 1024 →
    receiveAll [] f.octets = ([], [f.octets]) ∧ yardCommand f.octets = i) ∧
  (∀ i : Instr, requestFrame i = none ↔ match i with
    | .badRequest _ _ _ | .repeatedRequest | .yardFrameDropped _ | .frameGapTimeout _ | .lengthNotAFrame _ _ | .powerOnReset
    | .position _ _ _ | .gripped _ _ _ _ | .lifted _ _ _ _ | .setDown _ _ _ _ | .opened _ _ _ _ | .craneFrameDropped _ _
    | .linkSend _ | .freshnessExpiry _ | .noClock _ | .stuck _ | .fastUpdate _ | .slack _ | .grossSample _ | .settleTimeout _
    | .arrivalTimer _ | .departure _ | .chockLine _ _ | .clearLine _ _ | .switchCloses | .switchOpens
    | .risingClockEdge _ _ => True
    | _ => False) ∧
  (∀ (q : Nat) (i : Instr), (eventFrame q i).isSome = true ↔ ∃ link x y id, i = .position link x y ∨ i = .gripped link id x y ∨
    i = .lifted link id x y ∨ i = .setDown link id x y ∨ i = .opened link id x y) ∧
  ∀ (link : Fin 3) (q : Nat) (i : Instr) (f : Frame), i.wellFormed = true → q < 256 → eventFrame q i = some f →
    (∃ x y id, i = .position link x y ∨ i = .gripped link id x y ∨ i = .lifted link id x y ∨ i = .setDown link id x y ∨
      i = .opened link id x y) →
    receiveAll [] f.octets = ([], [f.octets]) ∧ craneCommand link f.octets = i
end

