-- ==== Sys2Proof/Laws/State.lean ====
section
/-! SUPPORT. What each named update of the state leaves as it is, and what it writes, field by field. -/

namespace Sys2Proof.Machine

/-! ### raise -/

@[simp] theorem State.raise_coils (s : State) (k : Notice) : (s.raise k).coils = s.coils := rfl
@[simp] theorem State.raise_store (s : State) (k : Notice) : (s.raise k).store = s.store := rfl
@[simp] theorem State.raise_cranes (s : State) (k : Notice) : (s.raise k).cranes = s.cranes := rfl
@[simp] theorem State.raise_links (s : State) (k : Notice) : (s.raise k).links = s.links := rfl
@[simp] theorem State.raise_arbiter (s : State) (k : Notice) : (s.raise k).arbiter = s.arbiter := rfl
@[simp] theorem State.raise_moves (s : State) (k : Notice) : (s.raise k).moves = s.moves := rfl
@[simp] theorem State.raise_channels (s : State) (k : Notice) : (s.raise k).channels = s.channels := rfl
@[simp] theorem State.raise_calib (s : State) (k : Notice) : (s.raise k).calib = s.calib := rfl
@[simp] theorem State.raise_points (s : State) (k : Notice) : (s.raise k).points = s.points := rfl
@[simp] theorem State.raise_weigh (s : State) (k : Notice) : (s.raise k).weigh = s.weigh := rfl
@[simp] theorem State.raise_bays (s : State) (k : Notice) : (s.raise k).bays = s.bays := rfl
@[simp] theorem State.raise_lines (s : State) (k : Notice) : (s.raise k).lines = s.lines := rfl
@[simp] theorem State.raise_switchClosed (s : State) (k : Notice) : (s.raise k).switchClosed = s.switchClosed := rfl
@[simp] theorem State.raise_settings (s : State) (k : Notice) : (s.raise k).settings = s.settings := rfl
@[simp] theorem State.raise_port (s : State) (k : Notice) : (s.raise k).port = s.port.raise k := rfl
@[simp] theorem State.raise_pending (s : State) (k : Notice) : (s.raise k).pending = s.pending := rfl

/-! ### updCoil -/

@[simp] theorem State.updCoil_coils (s : State) (id : Ident) (f : Coil → Coil) : (s.updCoil id f).coils = s.coils.map (fun c => if c.id = id then f c else c) := rfl
@[simp] theorem State.updCoil_store (s : State) (id : Ident) (f : Coil → Coil) : (s.updCoil id f).store = s.store := rfl
@[simp] theorem State.updCoil_cranes (s : State) (id : Ident) (f : Coil → Coil) : (s.updCoil id f).cranes = s.cranes := rfl
@[simp] theorem State.updCoil_links (s : State) (id : Ident) (f : Coil → Coil) : (s.updCoil id f).links = s.links := rfl
@[simp] theorem State.updCoil_arbiter (s : State) (id : Ident) (f : Coil → Coil) : (s.updCoil id f).arbiter = s.arbiter := rfl
@[simp] theorem State.updCoil_moves (s : State) (id : Ident) (f : Coil → Coil) : (s.updCoil id f).moves = s.moves := rfl
@[simp] theorem State.updCoil_channels (s : State) (id : Ident) (f : Coil → Coil) : (s.updCoil id f).channels = s.channels := rfl
@[simp] theorem State.updCoil_calib (s : State) (id : Ident) (f : Coil → Coil) : (s.updCoil id f).calib = s.calib := rfl
@[simp] theorem State.updCoil_points (s : State) (id : Ident) (f : Coil → Coil) : (s.updCoil id f).points = s.points := rfl
@[simp] theorem State.updCoil_weigh (s : State) (id : Ident) (f : Coil → Coil) : (s.updCoil id f).weigh = s.weigh := rfl
@[simp] theorem State.updCoil_bays (s : State) (id : Ident) (f : Coil → Coil) : (s.updCoil id f).bays = s.bays := rfl
@[simp] theorem State.updCoil_lines (s : State) (id : Ident) (f : Coil → Coil) : (s.updCoil id f).lines = s.lines := rfl
@[simp] theorem State.updCoil_switchClosed (s : State) (id : Ident) (f : Coil → Coil) : (s.updCoil id f).switchClosed = s.switchClosed := rfl
@[simp] theorem State.updCoil_settings (s : State) (id : Ident) (f : Coil → Coil) : (s.updCoil id f).settings = s.settings := rfl
@[simp] theorem State.updCoil_port (s : State) (id : Ident) (f : Coil → Coil) : (s.updCoil id f).port = s.port := rfl
@[simp] theorem State.updCoil_pending (s : State) (id : Ident) (f : Coil → Coil) : (s.updCoil id f).pending = s.pending := rfl

/-! ### updBay -/

@[simp] theorem State.updBay_coils (s : State) (b : Nat) (f : Bay → Bay) : (s.updBay b f).coils = s.coils := rfl
@[simp] theorem State.updBay_store (s : State) (b : Nat) (f : Bay → Bay) : (s.updBay b f).store = s.store := rfl
@[simp] theorem State.updBay_cranes (s : State) (b : Nat) (f : Bay → Bay) : (s.updBay b f).cranes = s.cranes := rfl
@[simp] theorem State.updBay_links (s : State) (b : Nat) (f : Bay → Bay) : (s.updBay b f).links = s.links := rfl
@[simp] theorem State.updBay_arbiter (s : State) (b : Nat) (f : Bay → Bay) : (s.updBay b f).arbiter = s.arbiter := rfl
@[simp] theorem State.updBay_moves (s : State) (b : Nat) (f : Bay → Bay) : (s.updBay b f).moves = s.moves := rfl
@[simp] theorem State.updBay_channels (s : State) (b : Nat) (f : Bay → Bay) : (s.updBay b f).channels = s.channels := rfl
@[simp] theorem State.updBay_calib (s : State) (b : Nat) (f : Bay → Bay) : (s.updBay b f).calib = s.calib := rfl
@[simp] theorem State.updBay_points (s : State) (b : Nat) (f : Bay → Bay) : (s.updBay b f).points = s.points := rfl
@[simp] theorem State.updBay_weigh (s : State) (b : Nat) (f : Bay → Bay) : (s.updBay b f).weigh = s.weigh := rfl
@[simp] theorem State.updBay_lines (s : State) (b : Nat) (f : Bay → Bay) : (s.updBay b f).lines = s.lines := rfl
@[simp] theorem State.updBay_switchClosed (s : State) (b : Nat) (f : Bay → Bay) : (s.updBay b f).switchClosed = s.switchClosed := rfl
@[simp] theorem State.updBay_settings (s : State) (b : Nat) (f : Bay → Bay) : (s.updBay b f).settings = s.settings := rfl
@[simp] theorem State.updBay_port (s : State) (b : Nat) (f : Bay → Bay) : (s.updBay b f).port = s.port := rfl
@[simp] theorem State.updBay_pending (s : State) (b : Nat) (f : Bay → Bay) : (s.updBay b f).pending = s.pending := rfl

/-! ### updCrane -/

@[simp] theorem State.updCrane_coils (s : State) (n : Nat) (f : Crane → Crane) : (s.updCrane n f).coils = s.coils := rfl
@[simp] theorem State.updCrane_store (s : State) (n : Nat) (f : Crane → Crane) : (s.updCrane n f).store = s.store := rfl
@[simp] theorem State.updCrane_cranes (s : State) (n : Nat) (f : Crane → Crane) : (s.updCrane n f).cranes = s.cranes.map (fun c => if c.num = n then f c else c) := rfl
@[simp] theorem State.updCrane_links (s : State) (n : Nat) (f : Crane → Crane) : (s.updCrane n f).links = s.links := rfl
@[simp] theorem State.updCrane_arbiter (s : State) (n : Nat) (f : Crane → Crane) : (s.updCrane n f).arbiter = s.arbiter := rfl
@[simp] theorem State.updCrane_moves (s : State) (n : Nat) (f : Crane → Crane) : (s.updCrane n f).moves = s.moves := rfl
@[simp] theorem State.updCrane_channels (s : State) (n : Nat) (f : Crane → Crane) : (s.updCrane n f).channels = s.channels := rfl
@[simp] theorem State.updCrane_calib (s : State) (n : Nat) (f : Crane → Crane) : (s.updCrane n f).calib = s.calib := rfl
@[simp] theorem State.updCrane_points (s : State) (n : Nat) (f : Crane → Crane) : (s.updCrane n f).points = s.points := rfl
@[simp] theorem State.updCrane_weigh (s : State) (n : Nat) (f : Crane → Crane) : (s.updCrane n f).weigh = s.weigh := rfl
@[simp] theorem State.updCrane_bays (s : State) (n : Nat) (f : Crane → Crane) : (s.updCrane n f).bays = s.bays := rfl
@[simp] theorem State.updCrane_lines (s : State) (n : Nat) (f : Crane → Crane) : (s.updCrane n f).lines = s.lines := rfl
@[simp] theorem State.updCrane_switchClosed (s : State) (n : Nat) (f : Crane → Crane) : (s.updCrane n f).switchClosed = s.switchClosed := rfl
@[simp] theorem State.updCrane_settings (s : State) (n : Nat) (f : Crane → Crane) : (s.updCrane n f).settings = s.settings := rfl
@[simp] theorem State.updCrane_port (s : State) (n : Nat) (f : Crane → Crane) : (s.updCrane n f).port = s.port := rfl
@[simp] theorem State.updCrane_pending (s : State) (n : Nat) (f : Crane → Crane) : (s.updCrane n f).pending = s.pending := rfl

/-! ### updLink -/

@[simp] theorem State.updLink_coils (s : State) (n : Nat) (f : Link → Link) : (s.updLink n f).coils = s.coils := rfl
@[simp] theorem State.updLink_store (s : State) (n : Nat) (f : Link → Link) : (s.updLink n f).store = s.store := rfl
@[simp] theorem State.updLink_cranes (s : State) (n : Nat) (f : Link → Link) : (s.updLink n f).cranes = s.cranes := rfl
@[simp] theorem State.updLink_links (s : State) (n : Nat) (f : Link → Link) : (s.updLink n f).links = modifyNth s.links n f := rfl
@[simp] theorem State.updLink_arbiter (s : State) (n : Nat) (f : Link → Link) : (s.updLink n f).arbiter = s.arbiter := rfl
@[simp] theorem State.updLink_moves (s : State) (n : Nat) (f : Link → Link) : (s.updLink n f).moves = s.moves := rfl
@[simp] theorem State.updLink_channels (s : State) (n : Nat) (f : Link → Link) : (s.updLink n f).channels = s.channels := rfl
@[simp] theorem State.updLink_calib (s : State) (n : Nat) (f : Link → Link) : (s.updLink n f).calib = s.calib := rfl
@[simp] theorem State.updLink_points (s : State) (n : Nat) (f : Link → Link) : (s.updLink n f).points = s.points := rfl
@[simp] theorem State.updLink_weigh (s : State) (n : Nat) (f : Link → Link) : (s.updLink n f).weigh = s.weigh := rfl
@[simp] theorem State.updLink_bays (s : State) (n : Nat) (f : Link → Link) : (s.updLink n f).bays = s.bays := rfl
@[simp] theorem State.updLink_lines (s : State) (n : Nat) (f : Link → Link) : (s.updLink n f).lines = s.lines := rfl
@[simp] theorem State.updLink_switchClosed (s : State) (n : Nat) (f : Link → Link) : (s.updLink n f).switchClosed = s.switchClosed := rfl
@[simp] theorem State.updLink_settings (s : State) (n : Nat) (f : Link → Link) : (s.updLink n f).settings = s.settings := rfl
@[simp] theorem State.updLink_port (s : State) (n : Nat) (f : Link → Link) : (s.updLink n f).port = s.port := rfl
@[simp] theorem State.updLink_pending (s : State) (n : Nat) (f : Link → Link) : (s.updLink n f).pending = s.pending := rfl

/-! ### placeMessage -/

@[simp] theorem State.placeMessage_coils (s : State) (n : Nat) (m : Message) : (s.placeMessage n m).coils = s.coils := rfl
@[simp] theorem State.placeMessage_store (s : State) (n : Nat) (m : Message) : (s.placeMessage n m).store = s.store := rfl
@[simp] theorem State.placeMessage_cranes (s : State) (n : Nat) (m : Message) : (s.placeMessage n m).cranes = s.cranes := rfl
@[simp] theorem State.placeMessage_links (s : State) (n : Nat) (m : Message) : (s.placeMessage n m).links = modifyNth s.links n (fun l => l.place m) := rfl
@[simp] theorem State.placeMessage_arbiter (s : State) (n : Nat) (m : Message) : (s.placeMessage n m).arbiter = s.arbiter := rfl
@[simp] theorem State.placeMessage_moves (s : State) (n : Nat) (m : Message) : (s.placeMessage n m).moves = s.moves := rfl
@[simp] theorem State.placeMessage_channels (s : State) (n : Nat) (m : Message) : (s.placeMessage n m).channels = s.channels := rfl
@[simp] theorem State.placeMessage_calib (s : State) (n : Nat) (m : Message) : (s.placeMessage n m).calib = s.calib := rfl
@[simp] theorem State.placeMessage_points (s : State) (n : Nat) (m : Message) : (s.placeMessage n m).points = s.points := rfl
@[simp] theorem State.placeMessage_weigh (s : State) (n : Nat) (m : Message) : (s.placeMessage n m).weigh = s.weigh := rfl
@[simp] theorem State.placeMessage_bays (s : State) (n : Nat) (m : Message) : (s.placeMessage n m).bays = s.bays := rfl
@[simp] theorem State.placeMessage_lines (s : State) (n : Nat) (m : Message) : (s.placeMessage n m).lines = s.lines := rfl
@[simp] theorem State.placeMessage_switchClosed (s : State) (n : Nat) (m : Message) : (s.placeMessage n m).switchClosed = s.switchClosed := rfl
@[simp] theorem State.placeMessage_settings (s : State) (n : Nat) (m : Message) : (s.placeMessage n m).settings = s.settings := rfl
@[simp] theorem State.placeMessage_port (s : State) (n : Nat) (m : Message) : (s.placeMessage n m).port = s.port := rfl
@[simp] theorem State.placeMessage_pending (s : State) (n : Nat) (m : Message) : (s.placeMessage n m).pending = s.pending := rfl

/-! ### dropCraneFrame -/

@[simp] theorem State.dropCraneFrame_coils (s : State) (n : Nat) : (s.dropCraneFrame n).coils = s.coils := rfl
@[simp] theorem State.dropCraneFrame_store (s : State) (n : Nat) : (s.dropCraneFrame n).store = s.store := rfl
@[simp] theorem State.dropCraneFrame_cranes (s : State) (n : Nat) : (s.dropCraneFrame n).cranes = s.cranes := rfl
@[simp] theorem State.dropCraneFrame_links (s : State) (n : Nat) : (s.dropCraneFrame n).links = modifyNth s.links n (fun l => { l with dropped := bumpCount l.dropped }) := rfl
@[simp] theorem State.dropCraneFrame_arbiter (s : State) (n : Nat) : (s.dropCraneFrame n).arbiter = s.arbiter := rfl
@[simp] theorem State.dropCraneFrame_moves (s : State) (n : Nat) : (s.dropCraneFrame n).moves = s.moves := rfl
@[simp] theorem State.dropCraneFrame_channels (s : State) (n : Nat) : (s.dropCraneFrame n).channels = s.channels := rfl
@[simp] theorem State.dropCraneFrame_calib (s : State) (n : Nat) : (s.dropCraneFrame n).calib = s.calib := rfl
@[simp] theorem State.dropCraneFrame_points (s : State) (n : Nat) : (s.dropCraneFrame n).points = s.points := rfl
@[simp] theorem State.dropCraneFrame_weigh (s : State) (n : Nat) : (s.dropCraneFrame n).weigh = s.weigh := rfl
@[simp] theorem State.dropCraneFrame_bays (s : State) (n : Nat) : (s.dropCraneFrame n).bays = s.bays := rfl
@[simp] theorem State.dropCraneFrame_lines (s : State) (n : Nat) : (s.dropCraneFrame n).lines = s.lines := rfl
@[simp] theorem State.dropCraneFrame_switchClosed (s : State) (n : Nat) : (s.dropCraneFrame n).switchClosed = s.switchClosed := rfl
@[simp] theorem State.dropCraneFrame_settings (s : State) (n : Nat) : (s.dropCraneFrame n).settings = s.settings := rfl
@[simp] theorem State.dropCraneFrame_port (s : State) (n : Nat) : (s.dropCraneFrame n).port = s.port := rfl
@[simp] theorem State.dropCraneFrame_pending (s : State) (n : Nat) : (s.dropCraneFrame n).pending = s.pending := rfl

/-! ### updTravel -/

@[simp] theorem State.updTravel_coils (s : State) (n : Nat) (f : TravelReasons → TravelReasons) : (s.updTravel n f).coils = s.coils := rfl
@[simp] theorem State.updTravel_store (s : State) (n : Nat) (f : TravelReasons → TravelReasons) : (s.updTravel n f).store = s.store := rfl
@[simp] theorem State.updTravel_cranes (s : State) (n : Nat) (f : TravelReasons → TravelReasons) : (s.updTravel n f).cranes = s.cranes.map (fun c => if c.num = n then { c with travel := f c.travel } else c) := rfl
@[simp] theorem State.updTravel_links (s : State) (n : Nat) (f : TravelReasons → TravelReasons) : (s.updTravel n f).links = s.links := rfl
@[simp] theorem State.updTravel_arbiter (s : State) (n : Nat) (f : TravelReasons → TravelReasons) : (s.updTravel n f).arbiter = s.arbiter := rfl
@[simp] theorem State.updTravel_moves (s : State) (n : Nat) (f : TravelReasons → TravelReasons) : (s.updTravel n f).moves = s.moves := rfl
@[simp] theorem State.updTravel_channels (s : State) (n : Nat) (f : TravelReasons → TravelReasons) : (s.updTravel n f).channels = s.channels := rfl
@[simp] theorem State.updTravel_calib (s : State) (n : Nat) (f : TravelReasons → TravelReasons) : (s.updTravel n f).calib = s.calib := rfl
@[simp] theorem State.updTravel_points (s : State) (n : Nat) (f : TravelReasons → TravelReasons) : (s.updTravel n f).points = s.points := rfl
@[simp] theorem State.updTravel_weigh (s : State) (n : Nat) (f : TravelReasons → TravelReasons) : (s.updTravel n f).weigh = s.weigh := rfl
@[simp] theorem State.updTravel_bays (s : State) (n : Nat) (f : TravelReasons → TravelReasons) : (s.updTravel n f).bays = s.bays := rfl
@[simp] theorem State.updTravel_lines (s : State) (n : Nat) (f : TravelReasons → TravelReasons) : (s.updTravel n f).lines = s.lines := rfl
@[simp] theorem State.updTravel_switchClosed (s : State) (n : Nat) (f : TravelReasons → TravelReasons) : (s.updTravel n f).switchClosed = s.switchClosed := rfl
@[simp] theorem State.updTravel_settings (s : State) (n : Nat) (f : TravelReasons → TravelReasons) : (s.updTravel n f).settings = s.settings := rfl
@[simp] theorem State.updTravel_port (s : State) (n : Nat) (f : TravelReasons → TravelReasons) : (s.updTravel n f).port = s.port := rfl
@[simp] theorem State.updTravel_pending (s : State) (n : Nat) (f : TravelReasons → TravelReasons) : (s.updTravel n f).pending = s.pending := rfl

/-! ### updRaise -/

@[simp] theorem State.updRaise_coils (s : State) (n : Nat) (f : RaiseReasons → RaiseReasons) : (s.updRaise n f).coils = s.coils := rfl
@[simp] theorem State.updRaise_store (s : State) (n : Nat) (f : RaiseReasons → RaiseReasons) : (s.updRaise n f).store = s.store := rfl
@[simp] theorem State.updRaise_cranes (s : State) (n : Nat) (f : RaiseReasons → RaiseReasons) : (s.updRaise n f).cranes = s.cranes.map (fun c => if c.num = n then { c with raise := f c.raise } else c) := rfl
@[simp] theorem State.updRaise_links (s : State) (n : Nat) (f : RaiseReasons → RaiseReasons) : (s.updRaise n f).links = s.links := rfl
@[simp] theorem State.updRaise_arbiter (s : State) (n : Nat) (f : RaiseReasons → RaiseReasons) : (s.updRaise n f).arbiter = s.arbiter := rfl
@[simp] theorem State.updRaise_moves (s : State) (n : Nat) (f : RaiseReasons → RaiseReasons) : (s.updRaise n f).moves = s.moves := rfl
@[simp] theorem State.updRaise_channels (s : State) (n : Nat) (f : RaiseReasons → RaiseReasons) : (s.updRaise n f).channels = s.channels := rfl
@[simp] theorem State.updRaise_calib (s : State) (n : Nat) (f : RaiseReasons → RaiseReasons) : (s.updRaise n f).calib = s.calib := rfl
@[simp] theorem State.updRaise_points (s : State) (n : Nat) (f : RaiseReasons → RaiseReasons) : (s.updRaise n f).points = s.points := rfl
@[simp] theorem State.updRaise_weigh (s : State) (n : Nat) (f : RaiseReasons → RaiseReasons) : (s.updRaise n f).weigh = s.weigh := rfl
@[simp] theorem State.updRaise_bays (s : State) (n : Nat) (f : RaiseReasons → RaiseReasons) : (s.updRaise n f).bays = s.bays := rfl
@[simp] theorem State.updRaise_lines (s : State) (n : Nat) (f : RaiseReasons → RaiseReasons) : (s.updRaise n f).lines = s.lines := rfl
@[simp] theorem State.updRaise_switchClosed (s : State) (n : Nat) (f : RaiseReasons → RaiseReasons) : (s.updRaise n f).switchClosed = s.switchClosed := rfl
@[simp] theorem State.updRaise_settings (s : State) (n : Nat) (f : RaiseReasons → RaiseReasons) : (s.updRaise n f).settings = s.settings := rfl
@[simp] theorem State.updRaise_port (s : State) (n : Nat) (f : RaiseReasons → RaiseReasons) : (s.updRaise n f).port = s.port := rfl
@[simp] theorem State.updRaise_pending (s : State) (n : Nat) (f : RaiseReasons → RaiseReasons) : (s.updRaise n f).pending = s.pending := rfl

/-! ### updMove -/

@[simp] theorem State.updMove_coils (s : State) (id : Nat) (f : Move → Move) : (s.updMove id f).coils = s.coils := rfl
@[simp] theorem State.updMove_store (s : State) (id : Nat) (f : Move → Move) : (s.updMove id f).store = s.store := rfl
@[simp] theorem State.updMove_cranes (s : State) (id : Nat) (f : Move → Move) : (s.updMove id f).cranes = s.cranes := rfl
@[simp] theorem State.updMove_links (s : State) (id : Nat) (f : Move → Move) : (s.updMove id f).links = s.links := rfl
@[simp] theorem State.updMove_arbiter (s : State) (id : Nat) (f : Move → Move) : (s.updMove id f).arbiter = s.arbiter := rfl
@[simp] theorem State.updMove_moves (s : State) (id : Nat) (f : Move → Move) : (s.updMove id f).moves = { s.moves with recs := s.moves.recs.map (fun m => if m.id = id then f m else m) } := rfl
@[simp] theorem State.updMove_channels (s : State) (id : Nat) (f : Move → Move) : (s.updMove id f).channels = s.channels := rfl
@[simp] theorem State.updMove_calib (s : State) (id : Nat) (f : Move → Move) : (s.updMove id f).calib = s.calib := rfl
@[simp] theorem State.updMove_points (s : State) (id : Nat) (f : Move → Move) : (s.updMove id f).points = s.points := rfl
@[simp] theorem State.updMove_weigh (s : State) (id : Nat) (f : Move → Move) : (s.updMove id f).weigh = s.weigh := rfl
@[simp] theorem State.updMove_bays (s : State) (id : Nat) (f : Move → Move) : (s.updMove id f).bays = s.bays := rfl
@[simp] theorem State.updMove_lines (s : State) (id : Nat) (f : Move → Move) : (s.updMove id f).lines = s.lines := rfl
@[simp] theorem State.updMove_switchClosed (s : State) (id : Nat) (f : Move → Move) : (s.updMove id f).switchClosed = s.switchClosed := rfl
@[simp] theorem State.updMove_settings (s : State) (id : Nat) (f : Move → Move) : (s.updMove id f).settings = s.settings := rfl
@[simp] theorem State.updMove_port (s : State) (id : Nat) (f : Move → Move) : (s.updMove id f).port = s.port := rfl
@[simp] theorem State.updMove_pending (s : State) (id : Nat) (f : Move → Move) : (s.updMove id f).pending = s.pending := rfl

/-! ### updChannel -/

@[simp] theorem State.updChannel_coils (s : State) (ch : Nat) (f : Channel → Channel) : (s.updChannel ch f).coils = s.coils := rfl
@[simp] theorem State.updChannel_store (s : State) (ch : Nat) (f : Channel → Channel) : (s.updChannel ch f).store = s.store := rfl
@[simp] theorem State.updChannel_cranes (s : State) (ch : Nat) (f : Channel → Channel) : (s.updChannel ch f).cranes = s.cranes := rfl
@[simp] theorem State.updChannel_links (s : State) (ch : Nat) (f : Channel → Channel) : (s.updChannel ch f).links = s.links := rfl
@[simp] theorem State.updChannel_arbiter (s : State) (ch : Nat) (f : Channel → Channel) : (s.updChannel ch f).arbiter = s.arbiter := rfl
@[simp] theorem State.updChannel_moves (s : State) (ch : Nat) (f : Channel → Channel) : (s.updChannel ch f).moves = s.moves := rfl
@[simp] theorem State.updChannel_channels (s : State) (ch : Nat) (f : Channel → Channel) : (s.updChannel ch f).channels = s.channels.modify ch f := rfl
@[simp] theorem State.updChannel_calib (s : State) (ch : Nat) (f : Channel → Channel) : (s.updChannel ch f).calib = s.calib := rfl
@[simp] theorem State.updChannel_points (s : State) (ch : Nat) (f : Channel → Channel) : (s.updChannel ch f).points = s.points := rfl
@[simp] theorem State.updChannel_weigh (s : State) (ch : Nat) (f : Channel → Channel) : (s.updChannel ch f).weigh = s.weigh := rfl
@[simp] theorem State.updChannel_bays (s : State) (ch : Nat) (f : Channel → Channel) : (s.updChannel ch f).bays = s.bays := rfl
@[simp] theorem State.updChannel_lines (s : State) (ch : Nat) (f : Channel → Channel) : (s.updChannel ch f).lines = s.lines := rfl
@[simp] theorem State.updChannel_switchClosed (s : State) (ch : Nat) (f : Channel → Channel) : (s.updChannel ch f).switchClosed = s.switchClosed := rfl
@[simp] theorem State.updChannel_settings (s : State) (ch : Nat) (f : Channel → Channel) : (s.updChannel ch f).settings = s.settings := rfl
@[simp] theorem State.updChannel_port (s : State) (ch : Nat) (f : Channel → Channel) : (s.updChannel ch f).port = s.port := rfl
@[simp] theorem State.updChannel_pending (s : State) (ch : Nat) (f : Channel → Channel) : (s.updChannel ch f).pending = s.pending := rfl

/-! ### updPoint -/

@[simp] theorem State.updPoint_coils (s : State) (wp : WeighPoint) (f : Point → Point) : (s.updPoint wp f).coils = s.coils := rfl
@[simp] theorem State.updPoint_store (s : State) (wp : WeighPoint) (f : Point → Point) : (s.updPoint wp f).store = s.store := rfl
@[simp] theorem State.updPoint_cranes (s : State) (wp : WeighPoint) (f : Point → Point) : (s.updPoint wp f).cranes = s.cranes := rfl
@[simp] theorem State.updPoint_links (s : State) (wp : WeighPoint) (f : Point → Point) : (s.updPoint wp f).links = s.links := rfl
@[simp] theorem State.updPoint_arbiter (s : State) (wp : WeighPoint) (f : Point → Point) : (s.updPoint wp f).arbiter = s.arbiter := rfl
@[simp] theorem State.updPoint_moves (s : State) (wp : WeighPoint) (f : Point → Point) : (s.updPoint wp f).moves = s.moves := rfl
@[simp] theorem State.updPoint_channels (s : State) (wp : WeighPoint) (f : Point → Point) : (s.updPoint wp f).channels = s.channels := rfl
@[simp] theorem State.updPoint_calib (s : State) (wp : WeighPoint) (f : Point → Point) : (s.updPoint wp f).calib = s.calib := rfl
@[simp] theorem State.updPoint_points (s : State) (wp : WeighPoint) (f : Point → Point) : (s.updPoint wp f).points = s.points.modify wp.index f := rfl
@[simp] theorem State.updPoint_weigh (s : State) (wp : WeighPoint) (f : Point → Point) : (s.updPoint wp f).weigh = s.weigh := rfl
@[simp] theorem State.updPoint_bays (s : State) (wp : WeighPoint) (f : Point → Point) : (s.updPoint wp f).bays = s.bays := rfl
@[simp] theorem State.updPoint_lines (s : State) (wp : WeighPoint) (f : Point → Point) : (s.updPoint wp f).lines = s.lines := rfl
@[simp] theorem State.updPoint_switchClosed (s : State) (wp : WeighPoint) (f : Point → Point) : (s.updPoint wp f).switchClosed = s.switchClosed := rfl
@[simp] theorem State.updPoint_settings (s : State) (wp : WeighPoint) (f : Point → Point) : (s.updPoint wp f).settings = s.settings := rfl
@[simp] theorem State.updPoint_port (s : State) (wp : WeighPoint) (f : Point → Point) : (s.updPoint wp f).port = s.port := rfl
@[simp] theorem State.updPoint_pending (s : State) (wp : WeighPoint) (f : Point → Point) : (s.updPoint wp f).pending = s.pending := rfl

/-! ### updRequests -/

@[simp] theorem State.updRequests_coils (s : State) (p : WeighRequest → Bool) (f : WeighRequest → WeighRequest) : (s.updRequests p f).coils = s.coils := rfl
@[simp] theorem State.updRequests_store (s : State) (p : WeighRequest → Bool) (f : WeighRequest → WeighRequest) : (s.updRequests p f).store = s.store := rfl
@[simp] theorem State.updRequests_cranes (s : State) (p : WeighRequest → Bool) (f : WeighRequest → WeighRequest) : (s.updRequests p f).cranes = s.cranes := rfl
@[simp] theorem State.updRequests_links (s : State) (p : WeighRequest → Bool) (f : WeighRequest → WeighRequest) : (s.updRequests p f).links = s.links := rfl
@[simp] theorem State.updRequests_arbiter (s : State) (p : WeighRequest → Bool) (f : WeighRequest → WeighRequest) : (s.updRequests p f).arbiter = s.arbiter := rfl
@[simp] theorem State.updRequests_moves (s : State) (p : WeighRequest → Bool) (f : WeighRequest → WeighRequest) : (s.updRequests p f).moves = s.moves := rfl
@[simp] theorem State.updRequests_channels (s : State) (p : WeighRequest → Bool) (f : WeighRequest → WeighRequest) : (s.updRequests p f).channels = s.channels := rfl
@[simp] theorem State.updRequests_calib (s : State) (p : WeighRequest → Bool) (f : WeighRequest → WeighRequest) : (s.updRequests p f).calib = s.calib := rfl
@[simp] theorem State.updRequests_points (s : State) (p : WeighRequest → Bool) (f : WeighRequest → WeighRequest) : (s.updRequests p f).points = s.points := rfl
@[simp] theorem State.updRequests_weigh (s : State) (p : WeighRequest → Bool) (f : WeighRequest → WeighRequest) : (s.updRequests p f).weigh = { s.weigh with queue := s.weigh.queue.map (fun r => if p r then f r else r) } := rfl
@[simp] theorem State.updRequests_bays (s : State) (p : WeighRequest → Bool) (f : WeighRequest → WeighRequest) : (s.updRequests p f).bays = s.bays := rfl
@[simp] theorem State.updRequests_lines (s : State) (p : WeighRequest → Bool) (f : WeighRequest → WeighRequest) : (s.updRequests p f).lines = s.lines := rfl
@[simp] theorem State.updRequests_switchClosed (s : State) (p : WeighRequest → Bool) (f : WeighRequest → WeighRequest) : (s.updRequests p f).switchClosed = s.switchClosed := rfl
@[simp] theorem State.updRequests_settings (s : State) (p : WeighRequest → Bool) (f : WeighRequest → WeighRequest) : (s.updRequests p f).settings = s.settings := rfl
@[simp] theorem State.updRequests_port (s : State) (p : WeighRequest → Bool) (f : WeighRequest → WeighRequest) : (s.updRequests p f).port = s.port := rfl
@[simp] theorem State.updRequests_pending (s : State) (p : WeighRequest → Bool) (f : WeighRequest → WeighRequest) : (s.updRequests p f).pending = s.pending := rfl

/-! ### beginEvent -/

@[simp] theorem State.beginEvent_coils (s : State) : (s.beginEvent).coils = s.coils := rfl
@[simp] theorem State.beginEvent_store (s : State) : (s.beginEvent).store = s.store := rfl
@[simp] theorem State.beginEvent_cranes (s : State) : (s.beginEvent).cranes = s.cranes := rfl
@[simp] theorem State.beginEvent_links (s : State) : (s.beginEvent).links = s.links := rfl
@[simp] theorem State.beginEvent_arbiter (s : State) : (s.beginEvent).arbiter = s.arbiter := rfl
@[simp] theorem State.beginEvent_moves (s : State) : (s.beginEvent).moves = s.moves := rfl
@[simp] theorem State.beginEvent_channels (s : State) : (s.beginEvent).channels = s.channels := rfl
@[simp] theorem State.beginEvent_calib (s : State) : (s.beginEvent).calib = s.calib := rfl
@[simp] theorem State.beginEvent_points (s : State) : (s.beginEvent).points = s.points := rfl
@[simp] theorem State.beginEvent_weigh (s : State) : (s.beginEvent).weigh = { s.weigh with event := s.weigh.event + 1 } := rfl
@[simp] theorem State.beginEvent_bays (s : State) : (s.beginEvent).bays = s.bays := rfl
@[simp] theorem State.beginEvent_lines (s : State) : (s.beginEvent).lines = s.lines := rfl
@[simp] theorem State.beginEvent_switchClosed (s : State) : (s.beginEvent).switchClosed = s.switchClosed := rfl
@[simp] theorem State.beginEvent_settings (s : State) : (s.beginEvent).settings = s.settings := rfl
@[simp] theorem State.beginEvent_port (s : State) : (s.beginEvent).port = s.port := rfl
@[simp] theorem State.beginEvent_pending (s : State) : (s.beginEvent).pending = s.pending := rfl

/-! ### wantExam -/

@[simp] theorem State.wantExam_coils (s : State) : (s.wantExam).coils = s.coils := rfl
@[simp] theorem State.wantExam_store (s : State) : (s.wantExam).store = s.store := rfl
@[simp] theorem State.wantExam_cranes (s : State) : (s.wantExam).cranes = s.cranes := rfl
@[simp] theorem State.wantExam_links (s : State) : (s.wantExam).links = s.links := rfl
@[simp] theorem State.wantExam_arbiter (s : State) : (s.wantExam).arbiter = { s.arbiter with examine := true } := rfl
@[simp] theorem State.wantExam_moves (s : State) : (s.wantExam).moves = s.moves := rfl
@[simp] theorem State.wantExam_channels (s : State) : (s.wantExam).channels = s.channels := rfl
@[simp] theorem State.wantExam_calib (s : State) : (s.wantExam).calib = s.calib := rfl
@[simp] theorem State.wantExam_points (s : State) : (s.wantExam).points = s.points := rfl
@[simp] theorem State.wantExam_weigh (s : State) : (s.wantExam).weigh = s.weigh := rfl
@[simp] theorem State.wantExam_bays (s : State) : (s.wantExam).bays = s.bays := rfl
@[simp] theorem State.wantExam_lines (s : State) : (s.wantExam).lines = s.lines := rfl
@[simp] theorem State.wantExam_switchClosed (s : State) : (s.wantExam).switchClosed = s.switchClosed := rfl
@[simp] theorem State.wantExam_settings (s : State) : (s.wantExam).settings = s.settings := rfl
@[simp] theorem State.wantExam_port (s : State) : (s.wantExam).port = s.port := rfl
@[simp] theorem State.wantExam_pending (s : State) : (s.wantExam).pending = s.pending := rfl

/-! ### freeHook -/

@[simp] theorem State.freeHook_coils (s : State) (n : Nat) : (s.freeHook n).coils = s.coils := rfl
@[simp] theorem State.freeHook_store (s : State) (n : Nat) : (s.freeHook n).store = s.store := rfl
@[simp] theorem State.freeHook_cranes (s : State) (n : Nat) : (s.freeHook n).cranes = s.cranes.map (fun c => if c.num = n then { c with load := .free, slack := none } else c) := rfl
@[simp] theorem State.freeHook_links (s : State) (n : Nat) : (s.freeHook n).links = s.links := rfl
@[simp] theorem State.freeHook_arbiter (s : State) (n : Nat) : (s.freeHook n).arbiter = s.arbiter := rfl
@[simp] theorem State.freeHook_moves (s : State) (n : Nat) : (s.freeHook n).moves = s.moves := rfl
@[simp] theorem State.freeHook_channels (s : State) (n : Nat) : (s.freeHook n).channels = s.channels := rfl
@[simp] theorem State.freeHook_calib (s : State) (n : Nat) : (s.freeHook n).calib = s.calib := rfl
@[simp] theorem State.freeHook_points (s : State) (n : Nat) : (s.freeHook n).points = s.points := rfl
@[simp] theorem State.freeHook_weigh (s : State) (n : Nat) : (s.freeHook n).weigh = s.weigh := rfl
@[simp] theorem State.freeHook_bays (s : State) (n : Nat) : (s.freeHook n).bays = s.bays := rfl
@[simp] theorem State.freeHook_lines (s : State) (n : Nat) : (s.freeHook n).lines = s.lines := rfl
@[simp] theorem State.freeHook_switchClosed (s : State) (n : Nat) : (s.freeHook n).switchClosed = s.switchClosed := rfl
@[simp] theorem State.freeHook_settings (s : State) (n : Nat) : (s.freeHook n).settings = s.settings := rfl
@[simp] theorem State.freeHook_port (s : State) (n : Nat) : (s.freeHook n).port = s.port := rfl
@[simp] theorem State.freeHook_pending (s : State) (n : Nat) : (s.freeHook n).pending = s.pending := rfl

/-! ### refreshPredictions -/

@[simp] theorem State.refreshPredictions_coils (s : State) : (s.refreshPredictions).coils = s.coils := rfl
@[simp] theorem State.refreshPredictions_store (s : State) : (s.refreshPredictions).store = s.store := rfl
@[simp] theorem State.refreshPredictions_cranes (s : State) : (s.refreshPredictions).cranes = s.cranes := rfl
@[simp] theorem State.refreshPredictions_links (s : State) : (s.refreshPredictions).links = s.links := rfl
@[simp] theorem State.refreshPredictions_arbiter (s : State) : (s.refreshPredictions).arbiter = s.arbiter := rfl
@[simp] theorem State.refreshPredictions_moves (s : State) : (s.refreshPredictions).moves = s.moves := rfl
@[simp] theorem State.refreshPredictions_channels (s : State) : (s.refreshPredictions).channels = s.channels := rfl
@[simp] theorem State.refreshPredictions_calib (s : State) : (s.refreshPredictions).calib = s.calib := rfl
@[simp] theorem State.refreshPredictions_points (s : State) : (s.refreshPredictions).points = s.points := rfl
@[simp] theorem State.refreshPredictions_weigh (s : State) : (s.refreshPredictions).weigh = s.weigh := rfl
@[simp] theorem State.refreshPredictions_lines (s : State) : (s.refreshPredictions).lines = s.lines := rfl
@[simp] theorem State.refreshPredictions_switchClosed (s : State) : (s.refreshPredictions).switchClosed = s.switchClosed := rfl
@[simp] theorem State.refreshPredictions_settings (s : State) : (s.refreshPredictions).settings = s.settings := rfl
@[simp] theorem State.refreshPredictions_port (s : State) : (s.refreshPredictions).port = s.port := rfl
@[simp] theorem State.refreshPredictions_pending (s : State) : (s.refreshPredictions).pending = s.pending := rfl

/-! ### judgeBays -/

@[simp] theorem State.judgeBays_coils (s : State) : (s.judgeBays).coils = s.coils := rfl
@[simp] theorem State.judgeBays_store (s : State) : (s.judgeBays).store = s.store := rfl
@[simp] theorem State.judgeBays_links (s : State) : (s.judgeBays).links = s.links := rfl
@[simp] theorem State.judgeBays_arbiter (s : State) : (s.judgeBays).arbiter = s.arbiter := rfl
@[simp] theorem State.judgeBays_moves (s : State) : (s.judgeBays).moves = s.moves := rfl
@[simp] theorem State.judgeBays_channels (s : State) : (s.judgeBays).channels = s.channels := rfl
@[simp] theorem State.judgeBays_calib (s : State) : (s.judgeBays).calib = s.calib := rfl
@[simp] theorem State.judgeBays_points (s : State) : (s.judgeBays).points = s.points := rfl
@[simp] theorem State.judgeBays_weigh (s : State) : (s.judgeBays).weigh = s.weigh := rfl
@[simp] theorem State.judgeBays_bays (s : State) : (s.judgeBays).bays = s.bays := rfl
@[simp] theorem State.judgeBays_lines (s : State) : (s.judgeBays).lines = s.lines := rfl
@[simp] theorem State.judgeBays_switchClosed (s : State) : (s.judgeBays).switchClosed = s.switchClosed := rfl
@[simp] theorem State.judgeBays_settings (s : State) : (s.judgeBays).settings = s.settings := rfl
@[simp] theorem State.judgeBays_port (s : State) : (s.judgeBays).port = s.port := rfl
@[simp] theorem State.judgeBays_pending (s : State) : (s.judgeBays).pending = s.pending := rfl

end Sys2Proof.Machine
end

