-- ==== Sys2Proof/Laws/Frames.lean ====
section
/-! SUPPORT. What nothing within an event touches: the channels, the lines, the switch, the settings, the commands that wait, and
the part of the port that is not its flags. One lemma for each shared operation, up to `settle`. -/

namespace Sys2Proof.Machine

/-- The parts of the state that no operation within an event writes. -/
structure Fixed where
  channels : List Channel
  lines : List BayLines
  switchClosed : Bool
  settings : Settings
  mode : Mode
  mask : BitVec 44
  departures : List (Option DepartureData)
  kept : Option Kept
  dropped : Nat
  partialFrame : List Octet
  out : Option Response
  pending : List Instr
deriving DecidableEq, Repr

/-- The fixed parts of a state. -/
def State.fixed (s : State) : Fixed :=
  { channels := s.channels, lines := s.lines, switchClosed := s.switchClosed, settings := s.settings, mode := s.port.mode,
    mask := s.port.mask, departures := s.port.departures, kept := s.port.kept, dropped := s.port.dropped,
    partialFrame := s.port.partialFrame, out := s.port.out, pending := s.pending }

/-- A fold of an operation that keeps the fixed parts keeps them. -/
theorem foldl_fixed {α : Type} (f : State → α → State) (h : ∀ s a, (f s a).fixed = s.fixed) (l : List α) (s : State) :
    (l.foldl f s).fixed = s.fixed := by
  induction l generalizing s with
  | nil => rfl
  | cons a l ih => rw [List.foldl_cons, ih, h]

/-! ### Plain updates -/

@[simp] theorem fixed_weigh (s : State) (w : WeighState) : ({ s with weigh := w } : State).fixed = s.fixed := rfl
@[simp] theorem fixed_arbiter (s : State) (a : Arbiter) : ({ s with arbiter := a } : State).fixed = s.fixed := rfl
@[simp] theorem fixed_ite (c : Prop) [Decidable c] (a b : State) : (if c then a else b).fixed = if c then a.fixed else b.fixed := by
  split <;> rfl

@[simp] theorem State.raise_fixed (s : State) (k : Notice) : (s.raise k).fixed = s.fixed := rfl
@[simp] theorem State.updCoil_fixed (s : State) (id : Ident) (f : Coil → Coil) : (s.updCoil id f).fixed = s.fixed := rfl
@[simp] theorem State.updBay_fixed (s : State) (b : Nat) (f : Bay → Bay) : (s.updBay b f).fixed = s.fixed := rfl
@[simp] theorem State.updCrane_fixed (s : State) (n : Nat) (f : Crane → Crane) : (s.updCrane n f).fixed = s.fixed := rfl
@[simp] theorem State.updLink_fixed (s : State) (n : Nat) (f : Link → Link) : (s.updLink n f).fixed = s.fixed := rfl
@[simp] theorem State.placeMessage_fixed (s : State) (n : Nat) (m : Message) : (s.placeMessage n m).fixed = s.fixed := rfl
@[simp] theorem State.updTravel_fixed (s : State) (n : Nat) (f : TravelReasons → TravelReasons) : (s.updTravel n f).fixed = s.fixed := rfl
@[simp] theorem State.updRaise_fixed (s : State) (n : Nat) (f : RaiseReasons → RaiseReasons) : (s.updRaise n f).fixed = s.fixed := rfl
@[simp] theorem State.updMove_fixed (s : State) (id : Nat) (f : Move → Move) : (s.updMove id f).fixed = s.fixed := rfl
@[simp] theorem State.updPoint_fixed (s : State) (wp : WeighPoint) (f : Point → Point) : (s.updPoint wp f).fixed = s.fixed := rfl
@[simp] theorem State.updRequests_fixed (s : State) (p : WeighRequest → Bool) (f : WeighRequest → WeighRequest) : (s.updRequests p f).fixed = s.fixed := rfl
@[simp] theorem State.beginEvent_fixed (s : State) : (s.beginEvent).fixed = s.fixed := rfl
@[simp] theorem State.wantExam_fixed (s : State) : (s.wantExam).fixed = s.fixed := rfl
@[simp] theorem State.freeHook_fixed (s : State) (n : Nat) : (s.freeHook n).fixed = s.fixed := rfl
@[simp] theorem State.refreshPredictions_fixed (s : State) : (s.refreshPredictions).fixed = s.fixed := rfl
@[simp] theorem State.judgeBays_fixed (s : State) : (s.judgeBays).fixed = s.fixed := rfl
@[simp] theorem State.assignRun_fixed (s : State) (n : Nat) (r : Option Run) : (s.assignRun n r).fixed = s.fixed := rfl
@[simp] theorem State.endRequests_fixed (s : State) (p : WeighRequest → Bool) (o : WeighOutcome) : (s.endRequests p o).fixed = s.fixed := rfl
@[simp] theorem State.withdrawEntry_fixed (s : State) (id : Nat) : (s.withdrawEntry id).fixed = s.fixed := rfl
@[simp] theorem State.placeEntry_fixed (s : State) (m : Move) : (s.placeEntry m).fixed = s.fixed := rfl
@[simp] theorem State.addMove_fixed (s : State) (m : Move) (k : Standing) : (s.addMove m k).fixed = s.fixed := rfl
@[simp] theorem State.storeCalib_fixed (s : State) (l : List Nat) (c : List Calib) : (s.storeCalib l c).fixed = s.fixed := rfl
@[simp] theorem State.addStrayGrip_fixed (s : State) (n : Nat) : (s.addStrayGrip n).fixed = s.fixed := rfl
@[simp] theorem State.bayHanded_fixed (s : State) (b : Nat) : (s.bayHanded b).fixed = s.fixed := rfl
@[simp] theorem State.preempt_fixed (s : State) (r : WeighRequest) : (s.preempt r).fixed = s.fixed := rfl

/-! ### Places -/

@[simp] theorem State.updPlace_fixed (s : State) (p : PlaceRef) (f : Place → Place) : (s.updPlace p f).fixed = s.fixed := by cases p <;> rfl
@[simp] theorem State.setPlace_fixed (s : State) (p : PlaceRef) (st : PlaceState) : (s.setPlace p st).fixed = s.fixed := State.updPlace_fixed s p _

/-! ### The runway -/

@[simp] theorem State.shrinkRun_fixed (s : State) (n : Nat) (r : Option Run) : (s.shrinkRun n r).fixed = s.fixed := by
  unfold State.shrinkRun
  (repeat' (first | split | dsimp only)) <;> simp
@[simp] theorem State.judgeBreach_fixed (s : State) (n : Nat) (x : Int) : (s.judgeBreach n x).fixed = s.fixed := by
  unfold State.judgeBreach
  (repeat' (first | split | dsimp only)) <;> simp
@[simp] theorem State.storeWindow_fixed (s : State) (n : Nat) (w : Window) : (s.storeWindow n w).fixed = s.fixed := by
  unfold State.storeWindow
  (repeat' (first | split | dsimp only)) <;> simp
@[simp] theorem State.refreshWindow_fixed (s : State) (n : Nat) : (s.refreshWindow n).fixed = s.fixed := by
  unfold State.refreshWindow
  repeat' (first | split | dsimp only)
  simp

/-! ### The weigh queue -/

@[simp] theorem State.startRequest_fixed (s : State) (r : WeighRequest) (e : Nat) : (s.startRequest r e).fixed = s.fixed := by
  unfold State.startRequest
  (repeat' (first | split | dsimp only)) <;> simp
theorem allocateUpTo_fixed (k : Nat) (s : State) : (State.allocateUpTo k s).fixed = s.fixed := by
  induction k generalizing s with
  | zero => rfl
  | succ k ih => unfold State.allocateUpTo; split <;> simp [ih]
@[simp] theorem State.allocate_fixed (s : State) : (s.allocate).fixed = s.fixed := allocateUpTo_fixed _ s
@[simp] theorem State.urgentStart_fixed (s : State) (r : WeighRequest) : (s.urgentStart r).fixed = s.fixed := by
  unfold State.urgentStart
  (repeat' (first | split | dsimp only)) <;> simp
@[simp] theorem State.joinRequest_fixed (s : State) (wp : WeighPoint) (p : Purpose) (q : Requester) : (s.joinRequest wp p q).fixed = s.fixed := rfl
@[simp] theorem State.placeRequest_fixed (s : State) (wp : WeighPoint) (p : Purpose) (q : Requester) (mass retry : Nat) : (s.placeRequest wp p q mass retry).fixed = s.fixed := by
  unfold State.placeRequest
  (repeat' (first | split | dsimp only)) <;> simp
@[simp] theorem State.removeRequester_fixed (s : State) (p : WeighRequest → Bool) (q : Requester) : (s.removeRequester p q).fixed = s.fixed := by
  unfold State.removeRequester
  repeat' (first | split | dsimp only)
  simp

/-! ### Bays -/

@[simp] theorem State.placeBayRequest_fixed (s : State) (b : Nat) (d : Side) (p : Purpose) (retry : Nat) : (s.placeBayRequest b d p retry).fixed = s.fixed := by
  unfold State.placeBayRequest
  simp
@[simp] theorem State.withdrawBayRequests_fixed (s : State) (b : Nat) (p : Purpose) : (s.withdrawBayRequests b p).fixed = s.fixed := by
  unfold State.withdrawBayRequests
  repeat' (first | split | dsimp only)
  simp
@[simp] theorem State.placeTare_fixed (s : State) (b : Nat) (d : Side) : (s.placeTare b d).fixed = s.fixed := by
  unfold State.placeTare
  repeat' (first | split | dsimp only)
  simp
@[simp] theorem State.placeTares_fixed (s : State) (b : Nat) : (s.placeTares b).fixed = s.fixed := by
  unfold State.placeTares
  simp
@[simp] theorem State.tareIfRunning_fixed (s : State) (b : Nat) (d : Side) : (s.tareIfRunning b d).fixed = s.fixed := by
  unfold State.tareIfRunning
  split <;> simp
@[simp] theorem State.taresStillNeeded_fixed (s : State) (b : Nat) : (s.taresStillNeeded b).fixed = s.fixed := by
  unfold State.taresStillNeeded
  simp
@[simp] theorem State.setPhase_fixed (s : State) (b : Nat) (ph : Phase) : (s.setPhase b ph).fixed = s.fixed := by
  unfold State.setPhase
  (repeat' (first | split | dsimp only)) <;> simp
@[simp] theorem State.setHold_fixed (s : State) (b : Nat) (h : BayHold) : (s.setHold b h).fixed = s.fixed := by
  unfold State.setHold
  repeat' (first | split | dsimp only)
  simp
@[simp] theorem State.setPresence_fixed (s : State) (b : Nat) (p : Presence) (x y : Timer) : (s.setPresence b p x y).fixed = s.fixed := by
  unfold State.setPresence
  simp
@[simp] theorem State.judgePresence_fixed (s : State) (b : Nat) : (s.judgePresence b).fixed = s.fixed := by
  unfold State.judgePresence
  (repeat' (first | split | dsimp only)) <;> simp
@[simp] theorem State.freezeBay_fixed (s : State) (b : Nat) : (s.freezeBay b).fixed = s.fixed := by
  unfold State.freezeBay
  repeat' (first | split | dsimp only)
  simp
@[simp] theorem State.thawBay_fixed (s : State) (b : Nat) : (s.thawBay b).fixed = s.fixed := by
  unfold State.thawBay
  (repeat' (first | split | dsimp only)) <;> simp
@[simp] theorem State.setLevel_fixed (s : State) (b : Nat) (d : Side) (l : Level) : (s.setLevel b d l).fixed = s.fixed := by
  unfold State.setLevel
  (repeat' (first | split | dsimp only)) <;> simp
@[simp] theorem State.judgeLoaded_fixed (s : State) (b : Nat) : (s.judgeLoaded b).fixed = s.fixed := by
  unfold State.judgeLoaded
  repeat' (first | split | dsimp only)
  simp
@[simp] theorem State.setEntry_fixed (s : State) (b k : Nat) (c : Ident) (st : EntryStatus) : (s.setEntry b k c st).fixed = s.fixed := by
  unfold State.setEntry
  repeat' (first | split | dsimp only)
  simp
@[simp] theorem State.runPlanCheck_fixed (s : State) (b : Nat) : (s.runPlanCheck b).fixed = s.fixed := by
  unfold State.runPlanCheck
  (repeat' (first | split | dsimp only)) <;> simp
@[simp] theorem State.clearLimit_fixed (s : State) (b : Nat) : (s.clearLimit b).fixed = s.fixed := by
  unfold State.clearLimit
  (repeat' (first | split | dsimp only)) <;> simp
@[simp] theorem State.dropRound_fixed (s : State) (b : Nat) : (s.dropRound b).fixed = s.fixed := by
  simp [State.dropRound]
@[simp] theorem State.abandonRound_fixed (s : State) (b : Nat) : (s.abandonRound b).fixed = s.fixed := by
  simp [State.abandonRound]
@[simp] theorem State.placeOnPlatform_fixed (s : State) (b : Nat) (d : Side) (r : Nat) : (s.placeOnPlatform b d r).fixed = s.fixed := by
  unfold State.placeOnPlatform
  (repeat' (first | split | dsimp only)) <;> simp
@[simp] theorem State.startRound_fixed (s : State) (b : Nat) : (s.startRound b).fixed = s.fixed := by
  unfold State.startRound
  (repeat' (first | split | dsimp only)) <;> simp
@[simp] theorem State.judgeRound_fixed (s : State) (b : Nat) : (s.judgeRound b).fixed = s.fixed := by
  unfold State.judgeRound
  (repeat' (first | split | dsimp only)) <;> simp
@[simp] theorem State.placeAgain_fixed (s : State) (b : Nat) (d : Side) (r : Nat) : (s.placeAgain b d r).fixed = s.fixed := by
  unfold State.placeAgain
  (repeat' (first | split | dsimp only)) <;> simp
@[simp] theorem State.placeResult_fixed (s : State) (b : Nat) (d : Side) (r : ResultRecord) : (s.placeResult b d r).fixed = s.fixed := by
  unfold State.placeResult
  (repeat' (first | split | dsimp only)) <;> simp
@[simp] theorem State.judgeTares_fixed (s : State) (b : Nat) : (s.judgeTares b).fixed = s.fixed := by
  unfold State.judgeTares
  repeat' (first | split | dsimp only)
  simp
@[simp] theorem State.tareAgain_fixed (s : State) (b : Nat) (d : Side) : (s.tareAgain b d).fixed = s.fixed := by
  unfold State.tareAgain
  (repeat' (first | split | dsimp only)) <;> simp
@[simp] theorem State.tareResult_fixed (s : State) (b : Nat) (d : Side) (r : ResultRecord) : (s.tareResult b d r).fixed = s.fixed := by
  unfold State.tareResult
  (repeat' (first | split | dsimp only)) <;> simp

/-! ### Moves -/

@[simp] theorem State.reserveTarget_fixed (s : State) (id : Nat) (c : Ident) (p : PlaceRef) : (s.reserveTarget id c p).fixed = s.fixed := by
  unfold State.reserveTarget
  (repeat' (first | split | dsimp only)) <;> simp
@[simp] theorem State.freeTarget_fixed (s : State) (m : Move) : (s.freeTarget m).fixed = s.fixed := by
  unfold State.freeTarget
  (repeat' (first | split | dsimp only)) <;> simp
@[simp] theorem State.withdrawTarget_fixed (s : State) (m : Move) : (s.withdrawTarget m).fixed = s.fixed := by
  unfold State.withdrawTarget
  simp
@[simp] theorem State.startCheck_fixed (s : State) (m : Move) (r : Nat) : (s.startCheck m r).fixed = s.fixed := by
  unfold State.startCheck
  simp
@[simp] theorem State.removeCheck_fixed (s : State) (id : Nat) : (s.removeCheck id).fixed = s.fixed := by
  unfold State.removeCheck
  simp
@[simp] theorem State.placeOrder_fixed (s : State) (id : Nat) : (s.placeOrder id).fixed = s.fixed := by
  unfold State.placeOrder
  (repeat' (first | split | dsimp only)) <;> simp
@[simp] theorem State.holdMove_fixed (s : State) (m : Move) (r : HoldReason) : (s.holdMove m r).fixed = s.fixed := by
  unfold State.holdMove
  repeat' (first | split | dsimp only)
  simp
@[simp] theorem State.holdUnfit_fixed (s : State) (m : Move) (j : Judged) : (s.holdUnfit m j).fixed = s.fixed := by
  unfold State.holdUnfit
  simp
@[simp] theorem State.enterZones_fixed (s : State) (m : Move) : (s.enterZones m).fixed = s.fixed := by
  unfold State.enterZones
  (repeat' (first | split | dsimp only)) <;> simp
@[simp] theorem State.promote_fixed (s : State) (n : Nat) : (s.promote n).fixed = s.fixed := by
  unfold State.promote
  (repeat' (first | split | dsimp only)) <;> simp
@[simp] theorem State.shrinkToFootprint_fixed (s : State) (n : Nat) : (s.shrinkToFootprint n).fixed = s.fixed := by
  unfold State.shrinkToFootprint
  repeat' (first | split | dsimp only)
  simp
@[simp] theorem State.displace_fixed (s : State) (m : Move) : (s.displace m).fixed = s.fixed := by
  unfold State.displace
  (repeat' (first | split | dsimp only)) <;> simp
@[simp] theorem State.settleSource_fixed (s : State) (m : Move) (o : MoveOutcome) : (s.settleSource m o).fixed = s.fixed := by
  unfold State.settleSource
  (repeat' split) <;> simp
@[simp] theorem State.settleTarget_fixed (s : State) (p : PlaceRef) (c : Ident) : (s.settleTarget p c).fixed = s.fixed := by
  cases p <;> simp [State.settleTarget]
@[simp] theorem State.settlePlaces_fixed (s : State) (m : Move) (o : MoveOutcome) : (s.settlePlaces m o).fixed = s.fixed := by
  unfold State.settlePlaces
  dsimp only
  split <;> simp
@[simp] theorem State.returnToCradle_fixed (s : State) (b k : Nat) (c : Ident) : (s.returnToCradle b k c).fixed = s.fixed := by
  unfold State.returnToCradle
  (repeat' (first | split | dsimp only)) <;> simp
@[simp] theorem State.finishMove_fixed (s : State) (m : Move) (o : MoveOutcome) (k : Bool) : (s.finishMove m o k).fixed = s.fixed := by
  have h := fun (x : State) => fixed_ite (((s.isHead m) = true ∧ x.isTracking m.crane = true) ∨ x.queue m.crane = []) x.wantExam x
  have g := fun (x : State) => fixed_ite (s.isHead m = true) (x.promote m.crane) x
  simp only [State.wantExam_fixed, ite_self, State.promote_fixed] at h g
  unfold State.finishMove
  refine (h _).trans ((g _).trans ?_)
  cases m.coil <;>
    simp only [State.raise_fixed, State.removeCheck_fixed, State.withdrawEntry_fixed, State.updCoil_fixed, State.updMove_fixed]
@[simp] theorem State.endAstray_fixed (s : State) (m : Move) (o : MoveOutcome) (p : Pos) : (s.endAstray m o p).fixed = s.fixed := by
  unfold State.endAstray
  (repeat' (first | split | dsimp only)) <;> simp
@[simp] theorem State.enterWeighing_fixed (s : State) (m : Move) (r : Nat) : (s.enterWeighing m r).fixed = s.fixed := by
  unfold State.enterWeighing
  repeat' (first | split | dsimp only)
  simp
@[simp] theorem State.enterCarrying_fixed (s : State) (m : Move) : (s.enterCarrying m).fixed = s.fixed := by
  unfold State.enterCarrying
  simp
@[simp] theorem State.enterPlaced_fixed (s : State) (m : Move) (p : Pos) : (s.enterPlaced m p).fixed = s.fixed := by
  unfold State.enterPlaced
  repeat' (first | split | dsimp only)
  simp

/-! ### Results -/

@[simp] theorem State.checkResult_fixed (s : State) (id : Nat) (r : ResultRecord) : (s.checkResult id r).fixed = s.fixed := by
  unfold State.checkResult
  (repeat' (first | split | dsimp only)) <;> simp
@[simp] theorem State.writeSlot_fixed (s : State) (r : ResultRecord) : (s.writeSlot r).fixed = s.fixed := by
  unfold State.writeSlot
  simp
@[simp] theorem State.judgeZero_fixed (s : State) (r : ResultRecord) : (s.judgeZero r).1.fixed = s.fixed := by
  unfold State.judgeZero; (repeat' split) <;> rfl
@[simp] theorem State.judgeSpan_fixed (s : State) (r : ResultRecord) : (s.judgeSpan r).1.fixed = s.fixed := by
  unfold State.judgeSpan; split
  · dsimp only; split <;> rfl
  · rfl
@[simp] theorem State.hostResult_fixed (s : State) (r : ResultRecord) : (s.hostResult r).fixed = s.fixed := by
  unfold State.hostResult
  (repeat' (first | split | dsimp only)) <;> simp
@[simp] theorem State.deliver_fixed (s : State) (d : Delivery) : (s.deliver d).fixed = s.fixed := by
  unfold State.deliver
  (repeat' (first | split | dsimp only)) <;> simp

/-! ### Grants, conflicts and yields -/

@[simp] theorem State.takeGrant_fixed (s : State) (m : Move) : (s.takeGrant m).fixed = s.fixed := by
  unfold State.takeGrant
  (repeat' (first | split | dsimp only)) <;> simp
@[simp] theorem State.grant_fixed (s : State) (e : ZoneEntry) (r : Run) : (s.grant e r).fixed = s.fixed := by
  unfold State.grant
  (repeat' (first | split | dsimp only)) <;> simp
@[simp] theorem State.crossing_fixed (s : State) (e : ZoneEntry) : (s.crossing e).fixed = s.fixed := by
  unfold State.crossing
  (repeat' (first | split | dsimp only)) <;> simp
@[simp] theorem State.conflictPair_fixed (s : State) (p : Nat × Nat) : (s.conflictPair p).fixed = s.fixed := by
  unfold State.conflictPair
  (repeat' (first | split | dsimp only)) <;> simp
@[simp] theorem State.conflicts_fixed (s : State) : (s.conflicts).fixed = s.fixed := foldl_fixed _ State.conflictPair_fixed _ _
@[simp] theorem State.makeYield_fixed (s : State) (b : Nat) (x : Int) : (s.makeYield b x).fixed = s.fixed := by
  unfold State.makeYield
  repeat' (first | split | dsimp only)
  simp
@[simp] theorem State.seekYieldOf_fixed (s : State) (e : ZoneEntry) (b : Nat) : (s.seekYieldOf e b).fixed = s.fixed := by
  unfold State.seekYieldOf
  (repeat' (first | split | dsimp only)) <;> simp
@[simp] theorem State.seekYield_fixed (s : State) (e : ZoneEntry) : (s.seekYield e).fixed = s.fixed :=
  foldl_fixed _ (fun s b => by split <;> simp) _ _
@[simp] theorem State.yields_fixed (s : State) : (s.yields).fixed = s.fixed := by
  unfold State.yields; split
  · exact foldl_fixed _ State.seekYield_fixed _ _
  · rfl
theorem judgeEntry_fixed (acc : State × Bool) (e : ZoneEntry) : (State.judgeEntry acc e).1.fixed = acc.1.fixed := by
  unfold State.judgeEntry; split <;> simp
theorem foldl_judgeEntry_fixed (l : List ZoneEntry) (acc : State × Bool) :
    (l.foldl State.judgeEntry acc).1.fixed = acc.1.fixed := by
  induction l generalizing acc with
  | nil => rfl
  | cons e l ih => rw [List.foldl_cons, ih, judgeEntry_fixed]
@[simp] theorem State.pass_fixed (s : State) : s.pass.1.fixed = s.fixed := by
  simp only [State.pass, State.yields_fixed, State.conflicts_fixed, foldl_judgeEntry_fixed]; rfl
theorem passes_fixed (k : Nat) (s : State) : (State.passes k s).fixed = s.fixed := by
  induction k generalizing s with
  | zero => rfl
  | succ k ih =>
    unfold State.passes
    have h := State.pass_fixed s
    split <;> simp_all
@[simp] theorem State.examination_fixed (s : State) : s.examination.fixed = s.fixed := passes_fixed 4 _

/-! ### The end of an event -/

theorem follow_fixed (k : Nat) (s : State) : (State.follow k s).fixed = s.fixed := by
  induction k generalizing s with
  | zero => rfl
  | succ k ih =>
    unfold State.follow
    split
    · rw [ih, State.deliver_fixed]; rfl
    · split
      · rw [ih, State.examination_fixed]
      · rfl
/-- What follows within an event leaves the fixed parts as they are. -/
theorem State.settle_fixed (s : State) : s.settle.fixed = s.fixed := by
  rw [State.settle, State.judgeBays_fixed, State.refreshPredictions_fixed, follow_fixed]

/-! ### What `settle` and `serve` answer -/

/-- Where no result is on its way and no examination is due, an event ends with the predictions and BAY reasons alone. -/
theorem State.settle_of_quiet (s : State) (h : s.weigh.outbox = []) (h' : s.arbiter.examine = false) :
    s.settle = s.refreshPredictions.judgeBays := by
  have : ∀ k, State.follow k s = s := fun k => by
    cases k with
    | zero => rfl
    | succ k => simp [State.follow, h, h']
  rw [State.settle, this]

/-- A request that the port does not hold as the last one taken reaches its owner, and the answer is kept. -/
theorem State.serve_of_fresh (s : State) (i : Instr) (act : State → State × Answer)
    (h : ∀ k, s.port.kept = some k → k.request ≠ i) :
    s.serve i act = .next ((act { s with port := { s.port with partialFrame := [] } }).1.respond i
      (act { s with port := { s.port with partialFrame := [] } }).2) := by
  unfold State.serve
  dsimp only
  split
  · next k hk => rw [if_neg (h k hk)]
  · rfl

/-- The request the port holds as the last one taken is answered from the kept response. -/
theorem State.serve_of_kept (s : State) (k : Kept) (act : State → State × Answer) (h : s.port.kept = some k) :
    s.serve k.request act = .next { s with port := { s.port with partialFrame := [], out := some k.response } } := by
  simp [State.serve, h]

end Sys2Proof.Machine
end

