-- ==== Sys2Proof/Laws/Lists.lean ====
section
/-! SUPPORT. What the model's operations on lists do: the change of the first element that fits, and the rows and saddles of a store
section in order of number. -/

namespace Sys2Proof.Machine

/-- The first element that fits is changed, and nothing before or behind it. -/
theorem updFirst_split {α : Type} {p : α → Bool} (f : α → α) {before : List α} {x : α} (rest : List α)
    (hb : ∀ y ∈ before, p y = false) (hx : p x = true) : updFirst p f (before ++ x :: rest) = before ++ f x :: rest := by
  induction before with
  | nil => simp [updFirst, hx]
  | cons y ys ih =>
    rw [List.forall_mem_cons] at hb
    simp only [List.cons_append, updFirst, hb.1, Bool.false_eq_true, if_false, ih hb.2]

/-- Where no element fits, nothing is changed. -/
theorem updFirst_none {α : Type} {p : α → Bool} (f : α → α) {l : List α} (h : ∀ y ∈ l, p y = false) : updFirst p f l = l := by
  induction l with
  | nil => rfl
  | cons y ys ih =>
    rw [List.forall_mem_cons] at h
    simp only [updFirst, h.1, Bool.false_eq_true, if_false, ih h.2]

/-- The rows of a section in order are the rows listed (R20). -/
theorem sortedRows_perm (d : StoreSection) : (sortedRows d).Perm d.rows := List.perm_insertionSort _ _

/-- The rows of a section in order rise by number, where none is listed twice (R20). -/
theorem sortedRows_rise (d : StoreSection) (h : (d.rows.map RowDef.num).Nodup) :
    ((sortedRows d).map RowDef.num).Pairwise (· < ·) := by
  have hs : (sortedRows d).Pairwise (fun a b => a.num ≤ b.num) := List.pairwise_insertionSort _ _
  have hn : ((sortedRows d).map RowDef.num).Nodup := ((sortedRows_perm d).map _).nodup_iff.2 h
  rw [List.Nodup, List.pairwise_map] at hn
  rw [List.pairwise_map]
  exact (hs.and hn).imp fun ⟨a, b⟩ => Nat.lt_of_le_of_ne a b

/-- The saddles of a section in order are the saddles listed (R22). -/
theorem sortedSaddles_perm (d : StoreSection) : (sortedSaddles d).Perm d.saddles := List.perm_insertionSort _ _

end Sys2Proof.Machine
end

