-- ==== Sys2Proof/Laws/Lookups.lean ====
section
/-! SUPPORT. What finding a record reads after one record is changed: the record named is changed, every other reads as before. One
pair of lemmas for each keyed table (coils, bays, cranes, moves), over one lemma about lists. -/

namespace Sys2Proof.Machine

/-- Finding by key in a list whose records keep their keys when one of them is changed. -/
theorem find_map_key {α κ : Type} [DecidableEq κ] [BEq κ] [LawfulBEq κ] (key : α → κ) (g : α → α) (hg : ∀ x, key (g x) = key x)
    (l : List α) (k j : κ) :
    (l.map (fun x => if key x = k then g x else x)).find? (fun x => key x == j)
      = (l.find? (fun x => key x == j)).map (fun x => if j = k then g x else x) := by
  have hm : ∀ x, key (if key x = k then g x else x) = key x := fun x => by split <;> simp [hg]
  rw [List.find?_map, show ((fun x => key x == j) ∘ fun x => if key x = k then g x else x) = fun x => key x == j from
    funext fun x => by simp only [Function.comp, hm]]
  cases h : l.find? (fun x => key x == j) with
  | none => rfl
  | some x =>
    have hx : key x = j := by simpa using List.find?_some h
    simp only [Option.map_some, hx]

/-- What a coil's record reads after a change of one record that keeps its identifier (R1). -/
theorem State.findCoil_updCoil (s : State) (k j : Ident) (f : Coil → Coil) (hf : ∀ c, (f c).id = c.id) :
    (s.updCoil k f).findCoil j = (s.findCoil j).map (fun c => if j = k then f c else c) :=
  find_map_key Coil.id f hf s.coils k j

/-- What a move's record reads after a change of one record that keeps its identifier (R79). -/
theorem State.findMove_updMove (s : State) (k j : Nat) (f : Move → Move) (hf : ∀ m, (f m).id = m.id) :
    (s.updMove k f).findMove j = (s.findMove j).map (fun m => if j = k then f m else m) :=
  find_map_key Move.id f hf s.moves.recs k j

/-- What a crane's record reads after a change of one record that keeps its number (R45). -/
theorem State.findCrane_updCrane (s : State) (k j : Nat) (f : Crane → Crane) (hf : ∀ c, (f c).num = c.num) :
    (s.updCrane k f).findCrane j = (s.findCrane j).map (fun c => if j = k then f c else c) :=
  find_map_key Crane.num f hf s.cranes k j

/-- What a bay's record reads after a change of one record that keeps its number: the record changed, and its lamp as its presence
and phase say (R158). -/
theorem State.findBay_updBay (s : State) (k j : Nat) (f : Bay → Bay) (hf : ∀ x, (f x).cfg.num = x.cfg.num) :
    (s.updBay k f).findBay j
      = (s.findBay j).map (fun x => if j = k then { f x with lamp := lampOf (f x).presence (f x).phase } else x) :=
  find_map_key (fun x : Bay => x.cfg.num) (fun x => { f x with lamp := lampOf (f x).presence (f x).phase }) hf s.bays k j

/-- A changed coil table has its identifiers in the same order. -/
theorem State.updCoil_ids (s : State) (k : Ident) (f : Coil → Coil) (hf : ∀ c, (f c).id = c.id) :
    (s.updCoil k f).coils.map Coil.id = s.coils.map Coil.id := by
  simp only [State.updCoil, List.map_map]
  exact List.map_congr_left fun c _ => by simp only [Function.comp]; split <;> simp [hf]

/-- A changed move table has its identifiers in the same order. -/
theorem State.updMove_ids (s : State) (k : Nat) (f : Move → Move) (hf : ∀ m, (f m).id = m.id) :
    (s.updMove k f).moves.recs.map Move.id = s.moves.recs.map Move.id := by
  simp only [State.updMove, List.map_map]
  exact List.map_congr_left fun c _ => by simp only [Function.comp]; split <;> simp [hf]

/-- A message placed on an idle link is sent at once, under the next number, when none waits (R56, R177). -/
theorem Link.place_idle (l : Link) (m : Message) (h : l.sending = none) (hw : l.waiting = []) :
    l.place m = { l with sending := some (l.nextSeq, m), waiting := [], nextSeq := (l.nextSeq + 1) % 256 } := by
  have hp : placeWaiting [] m = [m] := by unfold placeWaiting; simp
  simp only [Link.place, h, hw, hp, Option.isNone_none, if_true]
  rfl

/-- A message placed on a link that is sending waits, and nothing else of the link changes (R56). -/
theorem Link.place_busy (l : Link) (m : Message) (h : l.sending.isSome = true) :
    l.place m = { l with waiting := placeWaiting l.waiting m } := by
  unfold Link.place
  cases hs : l.sending with
  | none => rw [hs] at h; cases h
  | some x => simp

end Sys2Proof.Machine
end

