-- ==== Sys2Proof/Laws/PerInstr.lean ====
section
/-! SUPPORT. What is said of every command as syntax, one lemma for each constructor. -/

namespace Sys2Proof.Laws

/-- The frame of a command: a request's type is one of 1 to 41 and a crane message's is 80 or 81, no command has both, and the
sequence number of a well-formed request fits its octet (R177, R186). -/
def WireForm.Statement (i : Instr) : Prop :=
  (∀ f, Machine.requestFrame i = some f →
    1 ≤ f.type ∧ f.type ≤ 41 ∧ (i.wellFormed = true → f.seq < 256) ∧ ∀ q, Machine.eventFrame q i = none) ∧
  ∀ q f, Machine.eventFrame q i = some f → f.seq = q ∧ (f.type = 80 ∨ f.type = 81)

/-- A command with neither frame. -/
theorem WireForm.of_none {i : Instr} (h : Machine.requestFrame i = none) (h' : ∀ q, Machine.eventFrame q i = none) :
    WireForm.Statement i := by
  constructor
  · intro f hf; rw [h] at hf; cases hf
  · intro q f hf; rw [h' q] at hf; cases hf

/-- A request: its type, and its sequence number where it is well-formed. -/
theorem WireForm.of_request {i : Instr} {g : Machine.Frame} (h : Machine.requestFrame i = some g)
    (ht : 1 ≤ g.type ∧ g.type ≤ 41) (hw : i.wellFormed = true → fits1 g.seq = true)
    (h' : ∀ q, Machine.eventFrame q i = none) : WireForm.Statement i := by
  constructor
  · intro f hf
    rw [h] at hf; cases hf
    exact ⟨ht.1, ht.2, fun w => by simpa [fits1] using hw w, h'⟩
  · intro q f hf; rw [h' q] at hf; cases hf

/-- A message of a crane: its type. -/
theorem WireForm.of_event {i : Instr} {t : Nat} {b : List Octet} (h : Machine.requestFrame i = none)
    (h' : ∀ q, Machine.eventFrame q i = some { seq := q, type := t, body := b }) (ht : t = 80 ∨ t = 81) :
    WireForm.Statement i := by
  constructor
  · intro f hf; rw [h] at hf; cases hf
  · intro q f hf; rw [h' q] at hf; cases hf; exact ⟨rfl, ht⟩

theorem WireForm.powerOnReset : WireForm.Statement (Instr.powerOnReset) :=
  WireForm.of_none rfl (fun _ => rfl)

theorem WireForm.enter (seq : Nat) (id : Ident) (saddle weight diameter width cls : Nat) (bearing hold : Option Bool) : WireForm.Statement (Instr.enter seq id saddle weight diameter width cls bearing hold) :=
  WireForm.of_request rfl (by simp) (fun h => by simp_all [Instr.wellFormed]) (fun _ => rfl)

theorem WireForm.query (seq : Nat) (id : Ident) : WireForm.Statement (Instr.query seq id) :=
  WireForm.of_request rfl (by simp) (fun h => by simp_all [Instr.wellFormed]) (fun _ => rfl)

theorem WireForm.amend (seq : Nat) (id : Ident) (fields : AmendFields) : WireForm.Statement (Instr.amend seq id fields) :=
  WireForm.of_request rfl (by simp) (fun h => by simp_all [Instr.wellFormed]) (fun _ => rfl)

theorem WireForm.retire (seq : Nat) (id : Ident) : WireForm.Statement (Instr.retire seq id) :=
  WireForm.of_request rfl (by simp) (fun h => by simp_all [Instr.wellFormed]) (fun _ => rfl)

theorem WireForm.place (seq : Nat) (id : Ident) (pos : StorePos) (weight diameter width cls : Nat) (bearing hold : Option Bool) : WireForm.Statement (Instr.place seq id pos weight diameter width cls bearing hold) :=
  WireForm.of_request rfl (by simp) (fun h => by simp_all [Instr.wellFormed]) (fun _ => rfl)

theorem WireForm.find (seq : Nat) (id : Ident) (count : Option Nat) : WireForm.Statement (Instr.find seq id count) :=
  WireForm.of_request rfl (by simp) (fun h => by simp_all [Instr.wellFormed]) (fun _ => rfl)

theorem WireForm.probe (seq : Nat) (what : ProbeTarget) : WireForm.Statement (Instr.probe seq what) :=
  WireForm.of_request rfl (by simp) (fun h => by simp_all [Instr.wellFormed]) (fun _ => rfl)

theorem WireForm.block (seq : Nat) (what : BlockTarget) : WireForm.Statement (Instr.block seq what) :=
  WireForm.of_request rfl (by simp) (fun h => by simp_all [Instr.wellFormed]) (fun _ => rfl)

theorem WireForm.unblock (seq : Nat) (what : BlockTarget) : WireForm.Statement (Instr.unblock seq what) :=
  WireForm.of_request rfl (by simp) (fun h => by simp_all [Instr.wellFormed]) (fun _ => rfl)

theorem WireForm.crane (seq : Nat) (num : Option Nat) : WireForm.Statement (Instr.crane seq num) :=
  WireForm.of_request rfl (by simp) (fun h => by simp_all [Instr.wellFormed]) (fun _ => rfl)

theorem WireForm.shutZone (seq : Nat) (zone : Nat) : WireForm.Statement (Instr.shutZone seq zone) :=
  WireForm.of_request rfl (by simp) (fun h => by simp_all [Instr.wellFormed]) (fun _ => rfl)

theorem WireForm.openZone (seq : Nat) (zone : Nat) : WireForm.Statement (Instr.openZone seq zone) :=
  WireForm.of_request rfl (by simp) (fun h => by simp_all [Instr.wellFormed]) (fun _ => rfl)

theorem WireForm.zones (seq : Nat) (zone : Option Nat) : WireForm.Statement (Instr.zones seq zone) :=
  WireForm.of_request rfl (by simp) (fun h => by simp_all [Instr.wellFormed]) (fun _ => rfl)

theorem WireForm.move (seq : Nat) (coil : Ident) (target : MoveTarget) (crane : Nat) (urgent : Option Bool) : WireForm.Statement (Instr.move seq coil target crane urgent) :=
  WireForm.of_request rfl (by simp) (fun h => by simp_all [Instr.wellFormed]) (fun _ => rfl)

theorem WireForm.park (seq : Nat) (crane x : Nat) : WireForm.Statement (Instr.park seq crane x) :=
  WireForm.of_request rfl (by simp) (fun h => by simp_all [Instr.wellFormed]) (fun _ => rfl)

theorem WireForm.resume (seq : Nat) (id : Nat) : WireForm.Statement (Instr.resume seq id) :=
  WireForm.of_request rfl (by simp) (fun h => by simp_all [Instr.wellFormed]) (fun _ => rfl)

theorem WireForm.accept (seq : Nat) (id : Nat) : WireForm.Statement (Instr.accept seq id) :=
  WireForm.of_request rfl (by simp) (fun h => by simp_all [Instr.wellFormed]) (fun _ => rfl)

theorem WireForm.retarget (seq : Nat) (id : Nat) (target : Option MoveTarget) : WireForm.Statement (Instr.retarget seq id target) :=
  WireForm.of_request rfl (by simp) (fun h => by simp_all [Instr.wellFormed]) (fun _ => rfl)

theorem WireForm.abort (seq : Nat) (id : Nat) : WireForm.Statement (Instr.abort seq id) :=
  WireForm.of_request rfl (by simp) (fun h => by simp_all [Instr.wellFormed]) (fun _ => rfl)

theorem WireForm.moves (seq : Nat) (what : MovesTarget) : WireForm.Statement (Instr.moves seq what) :=
  WireForm.of_request rfl (by simp) (fun h => by simp_all [Instr.wellFormed]) (fun _ => rfl)

theorem WireForm.discard (seq : Nat) (id : Option Nat) : WireForm.Statement (Instr.discard seq id) :=
  WireForm.of_request rfl (by simp) (fun h => by simp_all [Instr.wellFormed]) (fun _ => rfl)

theorem WireForm.clearChannel (seq : Nat) (channel : Nat) : WireForm.Statement (Instr.clearChannel seq channel) :=
  WireForm.of_request rfl (by simp) (fun h => by simp_all [Instr.wellFormed]) (fun _ => rfl)

theorem WireForm.clearCrane (seq : Nat) (crane : Nat) : WireForm.Statement (Instr.clearCrane seq crane) :=
  WireForm.of_request rfl (by simp) (fun h => by simp_all [Instr.wellFormed]) (fun _ => rfl)

theorem WireForm.peaks (seq : Nat) (point : Option WeighPoint) : WireForm.Statement (Instr.peaks seq point) :=
  WireForm.of_request rfl (by simp) (fun h => by simp_all [Instr.wellFormed]) (fun _ => rfl)

theorem WireForm.weigh (seq : Nat) (point : WeighPoint) : WireForm.Statement (Instr.weigh seq point) :=
  WireForm.of_request rfl (by simp) (fun h => by simp_all [Instr.wellFormed]) (fun _ => rfl)

theorem WireForm.weighResult (seq : Nat) (point : WeighPoint) : WireForm.Statement (Instr.weighResult seq point) :=
  WireForm.of_request rfl (by simp) (fun h => by simp_all [Instr.wellFormed]) (fun _ => rfl)

theorem WireForm.channels (seq : Nat) : WireForm.Statement (Instr.channels seq) :=
  WireForm.of_request rfl (by simp) (fun h => by simp_all [Instr.wellFormed]) (fun _ => rfl)

theorem WireForm.calibration (seq : Nat) (channel : Option Nat) : WireForm.Statement (Instr.calibration seq channel) :=
  WireForm.of_request rfl (by simp) (fun h => by simp_all [Instr.wellFormed]) (fun _ => rfl)

theorem WireForm.zero (seq : Nat) (point : WeighPoint) : WireForm.Statement (Instr.zero seq point) :=
  WireForm.of_request rfl (by simp) (fun h => by simp_all [Instr.wellFormed]) (fun _ => rfl)

theorem WireForm.span (seq : Nat) (point : WeighPoint) (mass : Nat) : WireForm.Statement (Instr.span seq point mass) :=
  WireForm.of_request rfl (by simp) (fun h => by simp_all [Instr.wellFormed]) (fun _ => rfl)

theorem WireForm.unhold (seq : Nat) (bay : Nat) : WireForm.Statement (Instr.unhold seq bay) :=
  WireForm.of_request rfl (by simp) (fun h => by simp_all [Instr.wellFormed]) (fun _ => rfl)

theorem WireForm.dismiss (seq : Nat) (bay : Nat) : WireForm.Statement (Instr.dismiss seq bay) :=
  WireForm.of_request rfl (by simp) (fun h => by simp_all [Instr.wellFormed]) (fun _ => rfl)

theorem WireForm.bay (seq : Nat) (num : Option Nat) : WireForm.Statement (Instr.bay seq num) :=
  WireForm.of_request rfl (by simp) (fun h => by simp_all [Instr.wellFormed]) (fun _ => rfl)

theorem WireForm.announce (seq : Nat) (bay : Nat) (truck : Truck) (plan : List PlanItem) : WireForm.Statement (Instr.announce seq bay truck plan) :=
  WireForm.of_request rfl (by simp) (fun h => by simp_all [Instr.wellFormed]) (fun _ => rfl)

theorem WireForm.replan (seq : Nat) (bay : Nat) (plan : List PlanItem) : WireForm.Statement (Instr.replan seq bay plan) :=
  WireForm.of_request rfl (by simp) (fun h => by simp_all [Instr.wellFormed]) (fun _ => rfl)

theorem WireForm.modeSetup (seq : Nat) : WireForm.Statement (Instr.modeSetup seq) :=
  WireForm.of_request rfl (by simp) (fun h => by simp_all [Instr.wellFormed]) (fun _ => rfl)

theorem WireForm.modeRun (seq : Nat) : WireForm.Statement (Instr.modeRun seq) :=
  WireForm.of_request rfl (by simp) (fun h => by simp_all [Instr.wellFormed]) (fun _ => rfl)

theorem WireForm.layout (seq : Nat) (body : LayoutBody) : WireForm.Statement (Instr.layout seq body) :=
  WireForm.of_request rfl (by simp) (fun h => by simp_all [Instr.wellFormed]) (fun _ => rfl)

theorem WireForm.settings (seq : Nat) (items : List SettingItem) : WireForm.Statement (Instr.settings seq items) :=
  WireForm.of_request rfl (by simp) (fun h => by simp_all [Instr.wellFormed]) (fun _ => rfl)

theorem WireForm.restart (seq : Nat) : WireForm.Statement (Instr.restart seq) :=
  WireForm.of_request rfl (by simp) (fun h => by simp_all [Instr.wellFormed]) (fun _ => rfl)

theorem WireForm.notices (seq : Nat) : WireForm.Statement (Instr.notices seq) :=
  WireForm.of_request rfl (by simp) (fun h => by simp_all [Instr.wellFormed]) (fun _ => rfl)

theorem WireForm.ack (seq : Nat) (flags : BitVec 44) : WireForm.Statement (Instr.ack seq flags) :=
  WireForm.of_request rfl (by simp) (fun h => by simp_all [Instr.wellFormed]) (fun _ => rfl)

theorem WireForm.enable (seq : Nat) (flags : BitVec 44) : WireForm.Statement (Instr.enable seq flags) :=
  WireForm.of_request rfl (by simp) (fun h => by simp_all [Instr.wellFormed]) (fun _ => rfl)

theorem WireForm.badRequest (seq type : Nat) (body : List Octet) : WireForm.Statement (Instr.badRequest seq type body) :=
  WireForm.of_none rfl (fun _ => rfl)

theorem WireForm.repeatedRequest : WireForm.Statement (Instr.repeatedRequest) :=
  WireForm.of_none rfl (fun _ => rfl)

theorem WireForm.yardFrameDropped (cause : YardDrop) : WireForm.Statement (Instr.yardFrameDropped cause) :=
  WireForm.of_none rfl (fun _ => rfl)

theorem WireForm.frameGapTimeout (link : LinkId) : WireForm.Statement (Instr.frameGapTimeout link) :=
  WireForm.of_none rfl (fun _ => rfl)

theorem WireForm.position (link : Fin 3) (x y : Int) : WireForm.Statement (Instr.position link x y) :=
  WireForm.of_event rfl (fun _ => rfl) (by decide)

theorem WireForm.gripped (link : Fin 3) (move : Nat) (x y : Int) : WireForm.Statement (Instr.gripped link move x y) :=
  WireForm.of_event rfl (fun _ => rfl) (by decide)

theorem WireForm.lifted (link : Fin 3) (move : Nat) (x y : Int) : WireForm.Statement (Instr.lifted link move x y) :=
  WireForm.of_event rfl (fun _ => rfl) (by decide)

theorem WireForm.setDown (link : Fin 3) (move : Nat) (x y : Int) : WireForm.Statement (Instr.setDown link move x y) :=
  WireForm.of_event rfl (fun _ => rfl) (by decide)

theorem WireForm.opened (link : Fin 3) (move : Nat) (x y : Int) : WireForm.Statement (Instr.opened link move x y) :=
  WireForm.of_event rfl (fun _ => rfl) (by decide)

theorem WireForm.craneFrameDropped (link : Fin 3) (cause : CraneDrop) : WireForm.Statement (Instr.craneFrameDropped link cause) :=
  WireForm.of_none rfl (fun _ => rfl)

theorem WireForm.linkSend (link : Fin 3) : WireForm.Statement (Instr.linkSend link) :=
  WireForm.of_none rfl (fun _ => rfl)

theorem WireForm.freshnessExpiry (link : Fin 3) : WireForm.Statement (Instr.freshnessExpiry link) :=
  WireForm.of_none rfl (fun _ => rfl)

theorem WireForm.noClock (channel : Fin 14) : WireForm.Statement (Instr.noClock channel) :=
  WireForm.of_none rfl (fun _ => rfl)

theorem WireForm.stuck (channel : Fin 14) : WireForm.Statement (Instr.stuck channel) :=
  WireForm.of_none rfl (fun _ => rfl)

theorem WireForm.fastUpdate (channel : Fin 14) : WireForm.Statement (Instr.fastUpdate channel) :=
  WireForm.of_none rfl (fun _ => rfl)

theorem WireForm.slack (link : Fin 3) : WireForm.Statement (Instr.slack link) :=
  WireForm.of_none rfl (fun _ => rfl)

theorem WireForm.grossSample (point : WeighPoint) : WireForm.Statement (Instr.grossSample point) :=
  WireForm.of_none rfl (fun _ => rfl)

theorem WireForm.settleTimeout (engine : Fin 4) : WireForm.Statement (Instr.settleTimeout engine) :=
  WireForm.of_none rfl (fun _ => rfl)

theorem WireForm.arrivalTimer (bay : Fin 4) : WireForm.Statement (Instr.arrivalTimer bay) :=
  WireForm.of_none rfl (fun _ => rfl)

theorem WireForm.departure (bay : Fin 4) : WireForm.Statement (Instr.departure bay) :=
  WireForm.of_none rfl (fun _ => rfl)

theorem WireForm.chockLine (bay : Fin 4) (high : Bool) : WireForm.Statement (Instr.chockLine bay high) :=
  WireForm.of_none rfl (fun _ => rfl)

theorem WireForm.clearLine (bay : Fin 4) (high : Bool) : WireForm.Statement (Instr.clearLine bay high) :=
  WireForm.of_none rfl (fun _ => rfl)

theorem WireForm.switchCloses : WireForm.Statement (Instr.switchCloses) :=
  WireForm.of_none rfl (fun _ => rfl)

theorem WireForm.switchOpens : WireForm.Statement (Instr.switchOpens) :=
  WireForm.of_none rfl (fun _ => rfl)

theorem WireForm.risingClockEdge (channel : Fin 14) (bit : Bool) : WireForm.Statement (Instr.risingClockEdge channel bit) :=
  WireForm.of_none rfl (fun _ => rfl)

theorem WireForm.lengthNotAFrame (link : LinkId) (length : Nat) : WireForm.Statement (Instr.lengthNotAFrame link length) :=
  WireForm.of_none rfl (fun _ => rfl)

end Sys2Proof.Laws
end

