-- ==== Sys2Proof/Laws/Plans.lean ====
section
/-! SUPPORT. What computing the predictions and making a plan check leave of the bays: one lemma for each operation, saying all it
can do. -/

namespace Sys2Proof.Machine

/-- The bays after the predictions are computed afresh: each holds the prediction over its counted coils (R171). -/
theorem State.findBay_refreshPredictions (s : State) (n : Nat) :
    s.refreshPredictions.findBay n = (s.findBay n).map (fun x => { x with predicted := x.predictWith (s.counted x none) }) := by
  unfold State.refreshPredictions State.findBay
  simp [List.find?_map]

/-- What a changed bay reads: the record changed, its lamp at its aspect (R158). -/
theorem State.findBay_updBay_self {s : State} {b : Nat} {x : Bay} (f : Bay → Bay) (hf : ∀ x, (f x).cfg.num = x.cfg.num)
    (hx : s.findBay b = some x) :
    (s.updBay b f).findBay b = some { f x with lamp := lampOf (f x).presence (f x).phase } := by
  rw [State.findBay_updBay _ _ _ _ hf, hx]; simp

/-- What every other bay reads after a change of one. -/
theorem State.findBay_updBay_ne {s : State} {b n : Nat} (f : Bay → Bay) (hf : ∀ x, (f x).cfg.num = x.cfg.num) (hn : n ≠ b) :
    (s.updBay b f).findBay n = s.findBay n := by
  rw [State.findBay_updBay _ _ _ _ hf]; simp [hn]

/-- A limit reason is set whatever hold stands (R160). -/
theorem State.setHold_limit {s : State} {b : Nat} {x : Bay} {h : BayHold} (hh : (h == .planLimit || h == .tareLimit) = true)
    (hx : s.findBay b = some x) : s.setHold b h = (s.updBay b (fun x => { x with hold := some h })).raise (.bayChange b) := by
  unfold State.setHold; simp [hx, hh]

/-- A bay that is not defined or not tared makes no plan check (R173). -/
theorem State.runPlanCheck_untared {s : State} {b : Nat} (h : ∀ x, s.findBay b = some x → x.tared = false) :
    s.runPlanCheck b = s := by
  unfold State.runPlanCheck
  cases hx : s.findBay b with
  | none => rfl
  | some x => simp [h x hx]

/-- A plan check of a tared bay: the bay holds the result, and at a failure the limit reason with BAY_CHANGE; its lamp is at its
aspect, and nothing else changes (R158, R160, R173). -/
theorem State.runPlanCheck_tared {s : State} {b : Nat} {x : Bay} (hx : s.findBay b = some x) (ht : x.tared = true) :
    let u := s.runPlanCheck b
    u = { s with bays := u.bays, port := { s.port with flags := u.port.flags } } ∧ (∀ n, n ≠ b → u.findBay n = s.findBay n) ∧
    u.findBay b = some
      { x with
        planCheck := some (s.planCheck x), lamp := lampOf x.presence x.phase
        hold := (match s.planCheck x with
          | .passed => x.hold
          | .failed 0 _ => some .tareLimit
          | .failed _ _ => some .planLimit) } ∧
    u.port.flags = (if s.planCheck x = .passed then s.port.flags else s.port.flags ||| (Notice.bayChange b).bit) := by
  unfold State.runPlanCheck
  rw [hx]
  simp only [ht, if_true]
  have hb := State.findBay_updBay_self (fun z => { z with planCheck := some (s.planCheck x) }) (by intro; rfl) hx
  cases hr : s.planCheck x with
  | passed =>
    rw [hr] at hb
    exact ⟨rfl, fun n hn => State.findBay_updBay_ne _ (by intro; rfl) hn, hb, (if_pos rfl).symm⟩
  | failed k g =>
    rw [hr] at hb
    have held : ∀ h : BayHold, (h == .planLimit || h == .tareLimit) = true →
        let u := (s.updBay b (fun z => { z with planCheck := some (.failed k g) })).setHold b h
        u = { s with bays := u.bays, port := { s.port with flags := u.port.flags } } ∧ (∀ n, n ≠ b → u.findBay n = s.findBay n) ∧
        u.findBay b = some { x with planCheck := some (.failed k g), lamp := lampOf x.presence x.phase, hold := some h } ∧
        u.port.flags = s.port.flags ||| (Notice.bayChange b).bit := by
      intro h hh
      rw [State.setHold_limit hh hb]
      refine ⟨rfl, fun n hn => ?_, State.findBay_updBay_self _ (by intro; rfl) hb, rfl⟩
      exact (State.findBay_updBay_ne _ (by intro; rfl) hn).trans (State.findBay_updBay_ne _ (by intro; rfl) hn)
    rcases k with _ | k
    · simpa using held .tareLimit rfl
    · simpa using held .planLimit rfl

end Sys2Proof.Machine
end

