-- ==== Sys2Proof/Laws/Runs.lean ====
section
/-! SUPPORT. What a footprint and the hull of two runs are: the smallest run that holds the zones they are asked to hold (R47,
R70). One predicate says that, and one lemma for each operation over runs. -/

namespace Sys2Proof.Machine

/-- The run `r` is the smallest that holds every zone of which `p` holds, absent where there is none. -/
def SmallestRun (r : Option Run) (p : Nat → Prop) : Prop :=
  (r = none ∧ ∀ z, ¬ p z) ∨ ∃ w v, r = some (w, v) ∧ p w ∧ p v ∧ ∀ z, p z → w ≤ z ∧ z ≤ v

/-- The zones of a smallest run are those between two zones it is asked to hold. -/
theorem SmallestRun.inRun_iff {r : Option Run} {p : Nat → Prop} (h : SmallestRun r p) (z : Nat) :
    inRun r z = true ↔ ∃ a b, p a ∧ p b ∧ a ≤ z ∧ z ≤ b := by
  rcases h with ⟨rfl, h⟩ | ⟨w, v, rfl, hw, hv, h⟩
  · simp [inRun, h]
  · simp only [inRun, decide_eq_true_eq]
    exact ⟨fun hz => ⟨w, v, hw, hv, hz⟩, fun ⟨a, b, ha, hb, h1, h2⟩ => ⟨(h a ha).1.trans h1, h2.trans (h b hb).2⟩⟩

/-- A smallest run is absent exactly where it has no zone to hold. -/
theorem SmallestRun.none_iff {r : Option Run} {p : Nat → Prop} (h : SmallestRun r p) : r = none ↔ ∀ z, ¬ p z := by
  rcases h with ⟨rfl, h⟩ | ⟨w, v, rfl, hw, _, _⟩
  · simp [h]
  · exact ⟨fun e => absurd e (by simp), fun e => absurd hw (e w)⟩

/-- The hull of two smallest runs holds the zones of either. -/
theorem SmallestRun.hull {a b : Option Run} {p q : Nat → Prop} (ha : SmallestRun a p) (hb : SmallestRun b q) :
    SmallestRun (Machine.hull a b) (fun z => p z ∨ q z) := by
  rcases ha with ⟨rfl, ha⟩ | ⟨w, v, rfl, pw, pv, ha⟩ <;> rcases hb with ⟨rfl, hb⟩ | ⟨w', v', rfl, qw, qv, hb⟩
  · exact .inl ⟨rfl, fun z h => h.elim (ha z) (hb z)⟩
  · exact .inr ⟨w', v', rfl, .inr qw, .inr qv, fun z h => hb z (h.resolve_left (ha z))⟩
  · exact .inr ⟨w, v, rfl, .inl pw, .inl pv, fun z h => ha z (h.resolve_right (hb z))⟩
  · refine .inr ⟨min w w', max v v', rfl, ?_, ?_, ?_⟩
    · rcases min_choice w w' with h | h <;> rw [h]
      exacts [.inl pw, .inr qw]
    · rcases max_choice v v' with h | h <;> rw [h]
      exacts [.inl pv, .inr qv]
    · rintro z (h | h)
      · have := ha z h; omega
      · have := hb z h; omega

/-- The end t(z) of a zone as `spans` gives it (R62). -/
def ZoneTable.endOf (t : ZoneTable) (z : Nat) : Int := ((((t.zones[z]?).map Zone.start).getD t.length : Nat) : Int)

/-- The spans of a table are its zones with their starts and ends. -/
theorem ZoneTable.mem_spans (t : ZoneTable) (z : Nat) (a b : Int) :
    (z, a, b) ∈ t.spans ↔ ∃ rec, t.zone? z = some rec ∧ a = rec.start ∧ b = t.endOf z := by
  unfold ZoneTable.spans ZoneTable.zone? ZoneTable.endOf
  simp only [List.mem_map, Prod.mk.injEq]
  constructor
  · rintro ⟨⟨r, i⟩, h, rfl, rfl, rfl⟩
    rw [List.mk_mem_zipIdx_iff_getElem?] at h
    exact ⟨r, by simpa [nth?] using h, rfl, rfl⟩
  · rintro ⟨r, h, rfl, rfl⟩
    cases z with
    | zero => simp [nth?] at h
    | succ k => exact ⟨(r, k), by rw [List.mk_mem_zipIdx_iff_getElem?]; simpa [nth?] using h, rfl, rfl, rfl⟩

/-- The numbers of the spans rise. -/
theorem ZoneTable.spans_rise (t : ZoneTable) : (t.spans.map Prod.fst).Pairwise (· < ·) := by
  have h : t.spans.map Prod.fst = (List.range t.zones.length).map (· + 1) := by
    apply List.ext_getElem <;> simp [ZoneTable.spans]
  rw [h, List.pairwise_map]
  exact List.pairwise_lt_range.imp (by omega)

/-- A footprint is the smallest run that holds the zones it overlaps (R47). -/
theorem ZoneTable.footprint_smallest (t : ZoneTable) (e : Nat) (x : Int) :
    SmallestRun (t.footprint e x) (fun z => ∃ rec, t.zone? z = some rec ∧ (rec.start : Int) < x + e ∧ x - e < t.endOf z) := by
  unfold ZoneTable.footprint
  generalize hzs : (t.spans.filter (fun p => decide (p.2.1 < x + e ∧ x - e < p.2.2))).map Prod.fst = zs
  have hm : ∀ z, z ∈ zs ↔ ∃ rec, t.zone? z = some rec ∧ (rec.start : Int) < x + e ∧ x - e < t.endOf z := by
    intro z
    rw [← hzs]
    simp only [List.mem_map, List.mem_filter, decide_eq_true_eq]
    constructor
    · rintro ⟨⟨z', a, b⟩, ⟨h, h1⟩, rfl⟩
      obtain ⟨r, hr, rfl, rfl⟩ := (t.mem_spans _ _ _).mp h
      exact ⟨r, hr, h1⟩
    · rintro ⟨r, hr, h1⟩
      exact ⟨(z, _, _), ⟨(t.mem_spans _ _ _).mpr ⟨r, hr, rfl, rfl⟩, h1⟩, rfl⟩
  have hs : zs.Pairwise (· < ·) := t.spans_rise.sublist (hzs ▸ List.filter_sublist.map _)
  clear hzs
  cases zs with
  | nil => exact .inl ⟨rfl, fun z h => absurd ((hm z).mpr h) List.not_mem_nil⟩
  | cons w l =>
    refine .inr ⟨w, (w :: l).getLast (by simp), by simp [List.getLast?_eq_getLast_of_ne_nil], (hm _).mp List.mem_cons_self,
      (hm _).mp (List.getLast_mem _), fun z h => ?_⟩
    have hz := (hm z).mpr h
    constructor
    · rcases List.mem_cons.mp hz with rfl | hz
      · exact le_refl _
      · exact ((List.pairwise_cons.mp hs).1 z hz).le
    · rcases List.mem_append.mp (List.dropLast_append_getLast (List.cons_ne_nil w l) ▸ hz) with hz | hz
      · rw [← List.dropLast_append_getLast (List.cons_ne_nil w l)] at hs
        exact ((List.pairwise_append.mp hs).2.2 z hz _ (by simp)).le
      · exact (List.mem_singleton.mp hz).le

end Sys2Proof.Machine
end

