-- ==== Sys2Proof/Tests/Slice0.lean ====
section
/-! SUPPORT. Tests on small states: what WellFormed refuses, the worked figures of the spec, one or two steps of each command, and
states that meet the hypotheses of the statements. Expected values come from the rules named, not from the model. -/

set_option Elab.async false

namespace Sys2Proof.Tests

open Sys2Proof Sys2Proof.Machine

/-! ### Small states -/

/-- Identifiers. -/
def a1 : Ident := ['A', '1']
def b1 : Ident := ['B', '1']
def c1 : Ident := ['C', '1']

/-- The settings of a channel with full scale 4 on both paths. -/
def chanCfg : ChanSettings := { order := 1, decim := 4, integ := 1, shift := 0, fastOrder := 1, fastDecim := 4 }

/-- A RUNNING channel. -/
def chan : Channel :=
  { Channel.unconfigured with state := .running, cfg := some chanCfg, noClock := some 50, fast := Sinc.start 1 }

/-- A coil of 5,000 kg. -/
def coilAt (id : Ident) (l : Loc) : Coil :=
  { id := id, recorded := 5000, measured := none, verification := .unverified, diameter := 1400, width := 1000, cls := 1,
    bearing := true, hold := false, alloc := none, loc := l, move := none }

def place (st : PlaceState) : Place := { state := st, blocked := false }

def rowDef : RowDef :=
  { num := 1, x := 12000, y0 := 1000, pitch := 2000, count := 2, nests := true, classes := 0xFF, maxWidth := 2200,
    maxDiameter := 2000, floorLimit := 100000, bearing := 200, mismatch := 600, penalty := 5 }

def bayDef : BayDef := { num := 1, zone := 3, kingpin := 21000, dir := 1, y := 5000 }

/-- Bay 1, EMPTY. -/
def bay1 : Bay :=
  { cfg := bayDef, presence := .empty, frozen := false, arrival := none, departure := none, phase := .none, hold := none,
    security := .open, stale := false, lamp := .off, frontCandidate := none, rearCandidate := none, frontTare := none,
    rearTare := none, tareRetry := false, frontRequest := none, rearRequest := none, truck := none, cradles := [], plan := [],
    predicted := none, frontNet := none, rearNet := none, planCheck := none, round := none }

/-- Crane 1, TRACKING at X 5,000 with zones 1 and 2. -/
def crane1 : Crane :=
  { num := 1, halfLength := 1000, tare := 1000, tracking := .tracking, lastPos := some (5000, 2000), tongs := .opened,
    load := .free, run := some (1, 2), window := some (1000, 19000),
    travel := { setup := false, unknown := false, lost := false, breach := false, bay := false },
    raise := { overload := false, fault := false, strayGrip := false }, liftPeak := none, fresh := some 500, slack := none }

/-- Three zones: ENTRY and STORE of crane 1, and the zone of bay 1. -/
def table1 : ZoneTable :=
  { length := 30000
    zones := [{ start := 0, kind := .entry, state := .open, owner := some 1 },
      { start := 10000, kind := .store, state := .open, owner := some 1 },
      { start := 20000, kind := .bay 1, state := .open, owner := none }] }

/-- A unit in RUN with one crane, one row, one saddle, one bay, coil A1 on the saddle and B1 on FLOOR(1, 1). -/
def yard : State :=
  { State.reset with
    coils := [coilAt a1 (.place (.entry 1)), coilAt b1 (.place (.floor 1 1))]
    store := { rows := [{ cfg := rowDef, floors := [place (.occupied b1), place .free], nests := [place .free] }]
               saddles := [{ cfg := { num := 1, x := 5000, y := 2000 }, place := place (.occupied a1) }] }
    cranes := [crane1]
    arbiter := { State.reset.arbiter with table := some table1 }
    channels := [chan, chan] ++ List.replicate 4 Channel.unconfigured ++ [chan, chan] ++ List.replicate 6 Channel.unconfigured
    bays := [bay1]
    switchClosed := false
    port := { Port.initial with mode := .run } }

/-- The unit in SETUP. -/
def setupYard : State := { yard with
  port := Port.initial
  cranes := [{ crane1 with travel := { crane1.travel with setup := true } }] }

/-- Move 1 of crane 1: A1 from the saddle to FLOOR(1, 2). -/
def move1 (st : MoveState) : Move :=
  { id := 1, kind := .carry, origin := .host, crane := 1, urgent := false, coil := some a1, source := some (.place (.entry 1)),
    target := some (.place (.floor 1 2)), autoTarget := false, state := st, hold := none, pendingMark := false,
    offTarget := false, liftX := none, liftPeak := none, outcome := none, misfit := false, gripTaken := false }

/-- The yard with move 1 in a state, its coil at a location, the tongs and load of crane 1, and the state of the saddle. -/
def moving (m : Move) (l : Loc) (tongs : Tongs) (load : Load) (saddle : PlaceState) : State :=
  { yard with
    coils := [{ coilAt a1 l with move := some 1 }, coilAt b1 (.place (.floor 1 1))]
    store := { rows := [{ cfg := rowDef, floors := [place (.occupied b1), place (.incoming 1 a1)], nests := [place .free] }]
               saddles := [{ cfg := { num := 1, x := 5000, y := 2000 }, place := place saddle }] }
    cranes := [{ crane1 with tongs := tongs, load := load }]
    moves := { recs := [m], lastId := 1 } }

/-- Move 1 in TO_SOURCE. -/
def toSource : State := moving (move1 .toSource) (.place (.entry 1)) .opened .free (.outgoing 1 a1)
def gripping : State := moving { move1 .gripped with gripTaken := true } (.place (.entry 1)) .closed .free (.outgoing 1 a1)
def carrying : State := moving { move1 .carrying with gripTaken := true } (.hook 1) .closed .loaded (.vacated 1)
def placed : State := moving { move1 .placed with gripTaken := true } (.hook 1) .closed .resting (.vacated 1)
def heldFor (h : HoldReason) : State :=
  moving { move1 .held with hold := some h, gripTaken := true } (.hook 1) .closed .loaded (.vacated 1)

/-- The truck of 9.6, with its cradles as bay 1 has them. -/
def truck1 : Truck :=
  { id := ['T', '1'], bogieDist := 7700, cradles := [{ dist := 1200, maxWidth := 1800 }, { dist := 3000, maxWidth := 1800 }],
    wheelbase := 3800, fifthWheel := 600, steerShare := 600, steerLimit := 8000, driveLimit := 11500, bogieLimit := 24000,
    grossLimit := 40000 }

/-- Bay 1 with the truck announced for B1 on cradle 1. -/
def bayWith (ph : Phase) (p : Presence) : Bay :=
  { bay1 with
    phase := ph, presence := p, lamp := lampOf p ph, truck := some truck1, cradles := [place .free, place .free]
    plan := [{ coil := b1, cradle := 1, status := .waiting }] }

/-- The yard with a bay record, B1 allocated to it. -/
def withBay (x : Bay) : State :=
  { yard with
    bays := [x]
    coils := [coilAt a1 (.place (.entry 1)), { coilAt b1 (.place (.floor 1 1)) with alloc := some { bay := 1, index := 1 } }] }

/-- A request that runs on the hoist of crane 1 on engine 1. -/
def hoistRun (p : Purpose) (q : Requester) : WeighRequest :=
  { point := .hoist 1, purpose := p, requesters := [q], mass := 0, preempted := false, retry := 0, arrival := 1,
    run := some { engine := 1, started := 0, settle := some 3000, paths := yard.emptyPaths (.hoist 1), samples := [] } }

def weighing (p : Purpose) (q : Requester) : State :=
  { yard with weigh := { queue := [hoistRun p q], nextArrival := 2, event := 1, outbox := [] } }

/-! ### Reading an outcome -/

/-- The state after a command. -/
def after (i : Instr) (s : State) : State :=
  match exec i s with
  | .next t => t
  | _ => s

/-- The status of the response a command puts on the line. -/
def status (i : Instr) (s : State) : Option Status := (after i s).answered.map Answer.status

/-- A request is fresh where nothing is kept. -/
theorem fresh_of_none {s : State} (h : s.port.kept = none) (i : Instr) : s.fresh i := by
  intro k hk; rw [h] at hk; cases hk

/-! ### What WellFormed refuses (R177, R185, R186) -/

theorem test_octet_bounds : fits1 255 = true ∧ fits1 256 = false ∧ fits2 65535 = true ∧ fits2 65536 = false ∧
    fits4 4294967295 = true ∧ fits4 4294967296 = false ∧ fitsSigned4 (-2147483648) = true ∧ fitsSigned4 2147483648 = false := by
  decide +kernel
theorem test_ident_form : fitsIdent [] = false ∧ fitsIdent (List.replicate 10 'Z') = true ∧
    fitsIdent (List.replicate 11 'Z') = false ∧ fitsIdent [Char.ofNat 256] = false := by decide +kernel
theorem test_illformed_sequence : (Instr.query 256 a1).wellFormed = false ∧ (Instr.query 255 a1).wellFormed = true := by
  decide +kernel
theorem test_illformed_enter : (Instr.enter 0 a1 256 5000 1400 1000 1 none none).wellFormed = false ∧
    (Instr.enter 0 a1 1 4294967296 1400 1000 1 none none).wellFormed = false ∧
    (Instr.enter 0 a1 1 5000 65536 1000 1 none none).wellFormed = false ∧
    (Instr.enter 0 a1 1 5000 1400 1000 256 none none).wellFormed = false := by decide +kernel
theorem test_illformed_places : (Instr.block 0 (.place (.floor 4294967296 1))).wellFormed = false ∧
    (Instr.block 0 (.row 256)).wellFormed = false ∧ (Instr.probe 0 (.nest 1 4294967296)).wellFormed = false ∧
    (Instr.move 0 a1 (.named (.cradle 4294967296 1)) 1 none).wellFormed = false ∧
    (Instr.moves 0 (.one 256)).wellFormed = false ∧ (Instr.weigh 0 (.front 256)).wellFormed = false := by decide +kernel
theorem test_illformed_amend : (Instr.amend 0 a1 ⟨none, none, some 65536, none, none, none⟩).wellFormed = false ∧
    (Instr.amend 0 a1 ⟨none, none, none, some 256, none, none⟩).wellFormed = false := by decide +kernel
theorem test_illformed_truck : ({ truck1 with bogieDist := 65536 } : Truck).wellFormed = false ∧
    ({ truck1 with id := [] } : Truck).wellFormed = false ∧ truck1.wellFormed = true ∧
    (Instr.replan 0 1 [{ coil := a1, cradle := 256 }]).wellFormed = false ∧ wellFormedPlan (List.replicate 256 ⟨a1, 1⟩) = false := by
  decide +kernel
theorem test_illformed_sections : ({ num := 1, start := 0, kind := .bay 256 } : ZoneDef).wellFormed = false ∧
    ({ length := 4294967296, count := 2, policy := none, zones := [] } : ZoneSection).wellFormed = false ∧
    ({ num := 1, halfLength := 65536, tare := 0 } : CraneDef).wellFormed = false ∧
    ({ count := 256, cranes := [] } : CraneSection).wellFormed = false ∧ ({ rowDef with bearing := 256 } : RowDef).wellFormed = false ∧
    ({ num := 256, x := 0, y := 0 } : SaddleDef).wellFormed = false ∧ ({ bayDef with dir := 128 } : BayDef).wellFormed = false ∧
    ({ num := 0, cfg := { chanCfg with fastDecim := 256 } } : ChanDef).wellFormed = false := by decide +kernel
theorem test_illformed_settings : (Instr.settings 0 [⟨.division (.hoist 256), 5⟩]).wellFormed = false ∧
    (Instr.settings 0 [⟨.slack, 4294967296⟩]).wellFormed = false ∧
    (Instr.settings 0 (List.replicate 256 ⟨.slack, 5⟩)).wellFormed = false := by decide +kernel
theorem test_illformed_events : (Instr.gripped 0 256 0 0).wellFormed = false ∧ (Instr.position 0 2147483648 0).wellFormed = false ∧
    (Instr.badRequest 0 256 []).wellFormed = false ∧ (Instr.badRequest 0 99 (List.replicate 1025 0)).wellFormed = false := by
  decide +kernel

/-! ### Worked figures of the spec -/

/-- 0.7.3, and the displays of R140: rounding half-out. -/
theorem test_rounding : roundDiv 25474 10 = 2547 ∧ roundDiv (-25) 10 = -3 ∧ roundDiv 25 10 = 3 ∧ roundDiv (-24) 10 = -2 ∧
    roundDiv (-24576) 16384 = -2 := by decide +kernel
/-- R135: the section with F = 256, k = 3, I = 64, h = 14, Ff = 64, kf = 2 holds j = 4; with h = 20 it is refused. -/
theorem test_scale : ChanSettings.scale? ⟨3, 256, 64, 14, 2, 64⟩ = some 4 ∧ ChanSettings.scale? ⟨3, 256, 64, 20, 2, 64⟩ = none ∧
    ChanSettings.noOverflow ⟨3, 256, 64, 14, 2, 64⟩ = true := by decide +kernel
/-- 9.6 step 2: the prefixes of the first plan; the third fails on drive. -/
theorem test_axle_prefixes :
    predict truck1 7400 6300 [] = ⟨4440, 2960, 6300⟩ ∧ predict truck1 7400 6300 [⟨8000, 3000⟩] = ⟨5211, 7072, 9417⟩ ∧
    predict truck1 7400 6300 [⟨8000, 3000⟩, ⟨6000, 1200⟩] = ⟨6011, 11337, 10352⟩ ∧
    predict truck1 7400 6300 [⟨8000, 3000⟩, ⟨6000, 1200⟩, ⟨5000, 4800⟩] = ⟨6308, 12923, 13469⟩ ∧
    Prediction.firstOver ⟨6308, 12923, 13469⟩ truck1 = some .drive ∧ Prediction.firstOver ⟨6011, 11337, 10352⟩ truck1 = none := by
  decide +kernel
/-- 9.6 step 4: the share 182.5 rounds out to 183. -/
theorem test_axle_half : predict truck1 7400 6300 [⟨8090, 6600⟩] = ⟨4623, 3933, 13234⟩ := by decide +kernel
/-- R142 and 9.6 step 5: B recorded 6,000 and weighed 6,720 is a MISMATCH against 200 kg; A at 8,090 is VERIFIED. -/
theorem test_verification : verify 200 10 8000 8090 = .verified ∧ verify 200 10 6000 6720 = .mismatch ∧
    verify 200 10 6000 6200 = .verified ∧ verify 200 10 6000 6201 = .mismatch := by decide +kernel
/-- R177: the CRC-16 named there, on the nine octets 31 to 39, is 29B1. -/
theorem test_crc : crc16 [0x31, 0x32, 0x33, 0x34, 0x35, 0x36, 0x37, 0x38, 0x39] = 0x29B1#16 := by decide +kernel
/-- R177: a frame is taken whole from its octets, and one with a wrong check is dropped. -/
theorem test_frame : frameOf (Frame.octets ⟨7, 2, [1, 2, 3]⟩) = some ⟨7, 2, [1, 2, 3]⟩ ∧
    frameOf ((Frame.octets ⟨7, 2, [1, 2, 3]⟩).set 5 9) = none := by decide +kernel
/-- R186: QUERY is type 2, its body an identifier of 11 octets; an ACK of flags 1 and 44 is type 40. -/
theorem test_frames_of_requests :
    yardCommand (Frame.octets ⟨9, 2, [2, 0x41, 0x31, 0, 0, 0, 0, 0, 0, 0, 0]⟩) = .query 9 a1 ∧
    yardCommand (Frame.octets ⟨9, 2, [2, 0x41, 0x31, 0, 0, 0, 0, 0, 0, 0]⟩) =
      .badRequest 9 2 [2, 0x41, 0x31, 0, 0, 0, 0, 0, 0, 0] ∧
    yardCommand (Frame.octets ⟨9, 99, []⟩) = .badRequest 9 99 [] := by decide +kernel
/-- R186: POSITION is type 80 with X and Y in two's complement; EVENT is type 81 with move, stage, X and Y. -/
theorem test_frames_of_cranes :
    craneCommand 0 (Frame.octets ⟨0, 80, [0, 0, 0x13, 0x88, 0xFF, 0xFF, 0xFF, 0xFE]⟩) = .position 0 5000 (-2) ∧
    craneCommand 2 (Frame.octets ⟨0, 81, [7, 3, 0, 0, 0, 1, 0, 0, 0, 2]⟩) = .setDown 2 7 1 2 ∧
    craneCommand 1 (Frame.octets ⟨0, 81, [7, 5, 0, 0, 0, 1, 0, 0, 0, 2]⟩) = .craneFrameDropped 1 .unreadable := by decide +kernel
/-- 3.10: the run 38,000 to 48,000 and half-length 3,000 give the window 41,000 to 45,000. -/
theorem test_window : ZoneTable.runWindow
    { length := 60000, zones := [⟨38000, .store, .open, none⟩, ⟨42000, .entry, .open, none⟩, ⟨44000, .store, .open, none⟩,
      ⟨48000, .park, .open, none⟩] } 3000 (1, 3) = some (41000, 45000) := by decide +kernel

/-! ### One or two steps of each command -/

theorem test_step_takes_front : (match step { yard with pending := [.notices 1, .query 2 a1] } with
    | .next t => t.pending == [.query 2 a1] && t.answered.map Answer.status == some .ok | _ => false) = true := by decide +kernel
theorem test_idle_tick : (match step yard with
    | .next t => t.cranes.map Crane.fresh == [some 499] | _ => false) = true := by decide +kernel
theorem witness_StepRunsFrontCommand : yard.pending = [] ∧ State.reset.pending = [] := ⟨rfl, rfl⟩
/-- Log 2: a timer at 1 comes to 0, one at 0 stays there, and a stopped one stays stopped. -/
theorem test_idle_timers : (match step { yard with bays := [{ bay1 with arrival := some 1, departure := some 0 }] } with
    | .next t => t.bays.map (fun x => (x.arrival, x.departure)) == [(some 0, some 0)] && t.cranes.map Crane.slack == [none]
    | _ => false) = true := by decide +kernel
theorem test_power_on : after .powerOnReset { yard with calib := [⟨1, 2, 3⟩] } = { State.reset with calib := [⟨1, 2, 3⟩] } := by
  decide +kernel
/-- R12: saddle 2 is not defined, saddle 1 is busy, 500 kg is the least weight, an identifier is given once. -/
theorem test_enter : status (.enter 1 c1 2 5000 1400 1000 1 none none) yard = some .unknown ∧
    status (.enter 1 c1 1 5000 1400 1000 1 none none) yard = some .placeBusy ∧
    status (.enter 1 c1 1 499 1400 1000 1 none none) yard = some .outOfRange ∧
    status (.enter 1 a1 1 500 1400 1000 1 none none) yard = some .duplicate ∧
    status (.enter 1 [] 1 500 1400 1000 1 none none) yard = some .badIdent := by decide +kernel
def freeSaddle : State := after (.retire 0 a1) yard
theorem test_enter_creates : status (.enter 1 c1 1 45000 600 2200 8 none (some true)) freeSaddle = some .ok ∧
    ((after (.enter 1 c1 1 45000 600 2200 8 none (some true)) freeSaddle).findCoil c1).map Coil.loc = some (.place (.entry 1)) := by
  decide +kernel
theorem test_query : status (.query 1 a1) yard = some .ok ∧ status (.query 1 c1) yard = some .unknown := by decide +kernel
theorem test_amend : status (.amend 1 b1 ⟨some 6000, none, none, none, none, none⟩) yard = some .ok ∧
    ((after (.amend 1 b1 ⟨some 6000, none, none, none, none, none⟩) yard).findCoil b1).map Coil.recorded = some 6000 ∧
    status (.amend 1 b1 ⟨none, some 2001, none, none, none, none⟩) yard = some .unfit ∧
    status (.amend 1 b1 ⟨none, none, none, some 9, none, none⟩) yard = some .outOfRange := by decide +kernel
theorem test_retire : status (.retire 1 a1) yard = some .ok ∧ (after (.retire 1 a1) yard).findPlace (.entry 1) = some (place .free) ∧
    status (.retire 1 b1) yard = some .wrongPlace := by decide +kernel
theorem test_place : status (.place 1 c1 (.floor 1 2) 5000 1400 1000 1 none none) yard = some .wrongMode ∧
    status (.place 1 c1 (.floor 1 2) 5000 1400 1000 1 none none) setupYard = some .ok ∧
    status (.place 1 c1 (.floor 1 2) 5000 2001 1000 1 none none) setupYard = some .unfit ∧
    status (.place 1 c1 (.nest 1 1) 5000 1400 1000 1 none none) setupYard = some .unfit := by decide +kernel
/-- R38: from X 5,000 the floor position of the row at 12,000 costs 70. -/
theorem test_find : (after (.find 1 a1 none) yard).answered = some (Answer.ok (.found [(.floor 1 2, 70)] 1 false)) := by decide +kernel
theorem test_probe : status (.probe 1 (.floor 1 2)) yard = some .ok ∧ status (.probe 1 (.floor 1 3)) yard = some .unknown := by
  decide +kernel
theorem test_block : (after (.block 1 (.row 1)) yard).findPlace (.floor 1 2) = some { state := .free, blocked := true } ∧
    (after (.block 1 (.row 1)) yard).findPlace (.entry 1) = some (place (.occupied a1)) ∧
    status (.block 1 (.row 2)) yard = some .unknown := by decide +kernel
theorem test_unblock : (after (.unblock 2 (.place (.nest 1 1))) (after (.block 1 (.row 1)) yard)).findPlace (.nest 1 1) =
    some (place .free) := by decide +kernel
theorem test_crane : status (.crane 1 (some 1)) yard = some .ok ∧ status (.crane 1 (some 2)) yard = some .unknown ∧
    status (.crane 1 (some 4)) yard = some .outOfRange := by decide +kernel
/-- R66: an owned zone is SHUTTING, an unowned one SHUT; zone 4 is not defined and 33 out of range. -/
theorem test_shut : ((after (.shutZone 1 2) yard).arbiter.table.bind (·.zone? 2)).map Zone.state = some .shutting ∧
    ((after (.shutZone 1 3) yard).arbiter.table.bind (·.zone? 3)).map Zone.state = some .shut ∧
    status (.shutZone 1 4) yard = some .unknown ∧ status (.shutZone 1 33) yard = some .outOfRange := by decide +kernel
theorem test_open : ((after (.openZone 2 2) (after (.shutZone 1 2) yard)).arbiter.table.bind (·.zone? 2)).map Zone.state =
    some .open := by decide +kernel
theorem test_zones : status (.zones 1 none) yard = some .ok ∧ status (.zones 1 (some 3)) yard = some .ok ∧
    status (.zones 1 (some 4)) yard = some .unknown := by decide +kernel
theorem test_move : status (.move 1 a1 (.named (.floor 1 2)) 1 none) yard = some .ok ∧
    (after (.move 1 a1 (.named (.floor 1 2)) 1 none) yard).moves.recs.map Move.state = [.toSource] ∧
    (after (.move 1 a1 (.named (.floor 1 2)) 1 none) yard).findPlace (.floor 1 2) = some (place (.incoming 1 a1)) ∧
    status (.move 1 a1 (.named (.floor 1 1)) 1 none) yard = some .placeBusy := by decide +kernel
theorem test_park : (after (.park 1 1 12000) yard).moves.recs.map Move.state = [.travelling] ∧
    status (.park 1 1 29001) yard = some .outOfRange := by decide +kernel
theorem test_resume : (after (.resume 1 1) (heldFor .unsettled)).moves.recs.map Move.state = [.weighing] ∧
    status (.resume 1 1) (heldFor .mismatch) = some .wrongState := by decide +kernel
theorem test_accept : (after (.accept 1 1) (heldFor .mismatch)).moves.recs.map Move.state = [.carrying] ∧
    status (.accept 1 1) (heldFor .unsettled) = some .wrongState := by decide +kernel
/-- The yard with a second, free saddle. -/
def twoSaddles (s : State) : State :=
  { s with store := { s.store with saddles := s.store.saddles ++ [{ cfg := ⟨2, 7000, 2000⟩, place := place .free }] } }
theorem test_retarget : (after (.retarget 1 1 (some (.named (.entry 2)))) (twoSaddles (heldFor .mismatch))).moves.recs.map Move.target =
      [some (.place (.entry 2))] ∧
    (after (.retarget 1 1 (some (.named (.entry 2)))) (twoSaddles (heldFor .mismatch))).findPlace (.floor 1 2) = some (place .free) ∧
    status (.retarget 1 1 none) (heldFor .mismatch) = some .outOfRange := by decide +kernel
theorem test_abort : (after (.abort 1 1) toSource).moves.recs.map Move.outcome = [some .aborted] ∧
    (after (.abort 1 1) toSource).findPlace (.entry 1) = some (place (.occupied a1)) ∧ status (.abort 1 1) carrying = some .onHook := by
  decide +kernel
/-- R108: a lifted move that waits for runway again is refused, unless its source is the hook. -/
theorem test_abort_lifted : status (.abort 1 1) (moving (move1 .zones) (.hook 1) .closed .loaded (.vacated 1)) = some .onHook ∧
    status (.abort 1 1) (moving { move1 .zones with source := some (.hook 1) } (.hook 1) .closed .loaded .free) = some .ok := by
  decide +kernel
theorem test_moves : status (.moves 1 (.one 1)) toSource = some .ok ∧ status (.moves 1 (.one 2)) toSource = some .unknown := by
  decide +kernel
theorem test_discard : (after (.discard 2 (some 1)) (after (.abort 1 1) toSource)).moves.recs = [] ∧
    status (.discard 1 (some 1)) toSource = some .wrongState := by decide +kernel
/-- A channel in FAULT, and a crane with OVERLOAD. -/
def faulted : State := { yard with channels := { chan with state := .fault .stuck } :: yard.channels.tail }
theorem test_clear_channel : ((after (.clearChannel 1 0) faulted).channel 0).state = .running ∧
    status (.clearChannel 1 2) yard = some .wrongState ∧ status (.clearChannel 1 14) yard = some .outOfRange := by decide +kernel
def weighed (w : Int) : State :=
  { yard with
    channels := [{ chan with fastWeight := some w }, { chan with fastWeight := some 0 }] ++ yard.channels.drop 2
    cranes := [{ crane1 with raise := { crane1.raise with overload := true } }] }
theorem test_clear_crane : ((after (.clearCrane 1 1) (weighed 60000)).findCrane 1).map (·.raise.overload) = some false ∧
    status (.clearCrane 1 1) (weighed 60001) = some .overLimit ∧ status (.clearCrane 1 1) { weighed 0 with channels := [] } =
      some .overLimit := by decide +kernel
theorem test_peaks : (after (.peaks 1 (some (.hoist 1))) { yard with points := [{ Point.initial with peak := 7 }, { Point.initial with peak := 8 }] }).points.map
    Point.peak = [-250000, 8] := by decide +kernel
theorem test_weigh : (after (.weigh 1 (.hoist 1)) yard).weigh.queue.map WeighRequest.isRunning = [true] ∧
    status (.weigh 1 (.hoist 2)) yard = some .wrongState ∧ status (.weigh 1 (.hoist 4)) yard = some .outOfRange := by decide +kernel
theorem test_weigh_result : (after (.weighResult 1 (.hoist 1)) { yard with points := [{ Point.initial with unread := true }] }).points.map
    Point.unread = [false] := by decide +kernel
theorem test_channels : status (.channels 1) yard = some .ok := by decide +kernel
theorem test_calibration : status (.calibration 1 (some 13)) yard = some .ok ∧ status (.calibration 1 (some 14)) yard = some .outOfRange := by
  decide +kernel
theorem test_zero : (after (.zero 1 (.hoist 1)) yard).weigh.queue.map WeighRequest.purpose = [.zero] ∧
    status (.zero 1 (.hoist 1)) { yard with switchClosed := true } = some .switchClosed ∧
    status (.zero 1 (.hoist 1)) carrying = some .wrongState := by decide +kernel
theorem test_span : status (.span 1 (.hoist 1) 99) yard = some .outOfRange ∧ status (.span 1 (.hoist 1) 100) yard = some .ok ∧
    status (.span 1 (.hoist 1) 250001) yard = some .outOfRange := by decide +kernel
theorem test_unhold : status (.unhold 1 1) (withBay { bayWith .ready .present with hold := some .deviation }) = some .ok ∧
    status (.unhold 1 1) (withBay { bayWith .ready .present with hold := some .planLimit }) = some .wrongState := by decide +kernel
theorem test_dismiss : ((after (.dismiss 1 1) (withBay (bayWith .loading .present))).findBay 1).map Bay.phase = some .dismissed ∧
    ((after (.dismiss 1 1) (withBay (bayWith .loading .present))).findCoil b1).bind Coil.alloc = none ∧
    ((after (.dismiss 1 1) (withBay (bayWith .expecting .empty))).findBay 1).map Bay.truck = some none ∧
    status (.dismiss 1 1) yard = some .bayState := by decide +kernel
theorem test_bay : status (.bay 1 (some 1)) yard = some .ok ∧ status (.bay 1 (some 2)) yard = some .unknown := by decide +kernel
theorem test_announce : (after (.announce 1 1 truck1 [⟨b1, 1⟩]) yard).answered = some (Answer.ok (.phase .expecting)) ∧
    ((after (.announce 1 1 truck1 [⟨b1, 1⟩]) yard).findCoil b1).bind Coil.alloc = some ⟨1, 1⟩ ∧
    status (.announce 1 1 truck1 [⟨b1, 3⟩]) yard = some .unknown ∧ status (.announce 1 1 truck1 [⟨b1, 1⟩, ⟨b1, 2⟩]) yard = some .invalid := by
  decide +kernel
theorem test_replan : ((after (.replan 1 1 [⟨a1, 2⟩]) (withBay (bayWith .loading .present))).findCoil a1).bind Coil.alloc = some ⟨1, 1⟩ ∧
    ((after (.replan 1 1 [⟨a1, 2⟩]) (withBay (bayWith .loading .present))).findCoil b1).bind Coil.alloc = none ∧
    status (.replan 1 1 []) (withBay (bayWith .loading .present)) = some .outOfRange := by decide +kernel
theorem test_mode_setup : (after (.modeSetup 1) yard).cranes.map (·.travel.setup) = [true] ∧ status (.modeSetup 1) carrying = some .busy := by
  decide +kernel
theorem test_mode_run : (after (.modeRun 1) setupYard).port.mode = .run ∧
    status (.modeRun 1) { setupYard with cranes := [] } = some .invalid := by decide +kernel
/-- A layout with a zone section: zone 1 starts at 0 and each start is 2,000 mm beyond the one before it (R62). -/
def zonesAt (x : Nat) : LayoutBody :=
  { zone := some { length := 20000, count := 2, policy := none, zones := [⟨1, 0, .entry⟩, ⟨2, x, .store⟩] }
    crane := none, store := none, bay := none, channel := none }
theorem test_layout : status (.layout 1 (zonesAt 2000)) setupYard = some .ok ∧ status (.layout 1 (zonesAt 1999)) setupYard = some .outOfRange ∧
    status (.layout 1 (zonesAt 18000)) setupYard = some .ok ∧ status (.layout 1 (zonesAt 18001)) setupYard = some .outOfRange ∧
    status (.layout 1 (zonesAt 2000)) yard = some .wrongMode := by decide +kernel
/-- R62: a zone given twice, a zone missing beside a number above the count, and (log 74) a number above the count alone. R44 lists
a crane number outside 1 to the count before a missing one. -/
theorem test_zone_numbering : zoneNumberFault 3 [1, 2, 2] = some 2 ∧ zoneNumberFault 3 [1, 2, 4] = some 3 ∧
    zoneNumberFault 2 [1, 2, 3] = some 3 ∧ zoneNumberFault 3 [3, 1, 2] = none ∧ craneNumberFault 3 [1, 2, 4] = some 4 := by decide
theorem test_layout_cranes_unknown : (after (.layout 1 (zonesAt 2000)) setupYard).cranes.map Crane.tracking = [.unknown] := by
  decide +kernel
/-- R181: the freshness timeout is clamped, H is refused, and E must stay below A. -/
theorem test_settings : (after (.settings 1 [⟨.freshness, 99⟩]) yard).answered =
      some (Answer.ok (.settings [{ key := .freshness, value := 100, clamped := true }])) ∧
    status (.settings 1 [⟨.overload, 60001⟩]) yard = some .outOfRange ∧
    status (.settings 1 [⟨.emptyThreshold, 2000⟩]) yard = some .outOfRange ∧
    status (.settings 1 [⟨.emptyThreshold, 2000⟩, ⟨.arrivalThreshold, 2001⟩]) yard = some .ok := by decide +kernel
theorem test_restart : (after (.restart 1) carrying).moves.recs = [] ∧ (after (.restart 1) carrying).cranes.map Crane.tracking = [.unknown] ∧
    (after (.restart 1) carrying).findPlace (.entry 1) = some (place .free) := by decide +kernel
theorem test_notices : status (.notices 1) yard = some .ok := by decide +kernel
theorem test_ack : (after (.ack 1 1#44) { yard with port := { yard.port with flags := 3#44 } }).port.flags = 2#44 := by decide +kernel
theorem test_enable : ((after (.enable 1 2#44) { yard with port := { yard.port with flags := 2#44 } }).port.out.map Response.attention) =
    some true := by decide +kernel
theorem test_bad_request : status (.badRequest 1 99 []) yard = some .badRequest := by decide +kernel
theorem test_repeated : (after .repeatedRequest (after (.query 1 c1) yard)).answered.map Answer.status = some .unknown ∧
    (after (.enter 1 c1 1 500 600 500 1 none none) (after (.enter 1 c1 1 500 600 500 1 none none) freeSaddle)).answered.map
      Answer.status = some .ok := by decide +kernel
theorem test_yard_drop : (after (.yardFrameDropped .checkFailed) { yard with port := { yard.port with dropped := 65535 } }).port.dropped = 65535 ∧
    (after (.yardFrameDropped .bufferFull) yard).port.dropped = 1 := by decide +kernel
theorem test_gap : (after (.frameGapTimeout .yard) { yard with port := { yard.port with partialFrame := [0xA5] } }).port.partialFrame = [] := by
  decide +kernel
/-- R177: 1,026 is the longest length, and a second start mark inside a false length starts again. -/
theorem test_length : (after (.lengthNotAFrame .yard 1027) yard).port.partialFrame = [] ∧
    (after (.lengthNotAFrame .yard 0xA501) yard).port.partialFrame = [0xA5, 0x01] ∧
    (after (.lengthNotAFrame .yard 0x08A5) yard).port.partialFrame = [0xA5] := by decide +kernel
/-- R49: the east edge of the window is inside it, one beyond it is a breach. -/
theorem test_position : ((after (.position 0 19000 0) yard).findCrane 1).map (·.travel.breach) = some false ∧
    ((after (.position 0 19001 0) yard).findCrane 1).map (·.travel.breach) = some true ∧
    ((after (.position 1 0 0) yard).links.map Link.dropped) = [0, 1, 0] := by decide +kernel
/-- R95: 150 mm from the source in X and in Y is at the source, 151 is not. -/
theorem test_gripped : (after (.gripped 0 1 5150 1850) toSource).moves.recs.map Move.state = [.gripped] ∧
    (after (.gripped 0 1 5151 2000) toSource).moves.recs.map Move.hold = [some .strayGrip] := by decide +kernel
theorem test_lifted : (after (.lifted 0 1 5000 2000) gripping).moves.recs.map Move.state = [.weighing] ∧
    ((after (.lifted 0 1 5000 2000) gripping).findCoil a1).map Coil.loc = some (.hook 1) ∧
    (after (.lifted 0 1 5000 2000) gripping).findPlace (.entry 1) = some (place (.vacated 1)) := by decide +kernel
theorem test_set : (after (.setDown 0 1 12150 3000) carrying).moves.recs.map (fun m => (m.state, m.offTarget)) = [(.placed, false)] ∧
    (after (.setDown 0 1 12151 3000) carrying).moves.recs.map (fun m => (m.state, m.offTarget)) = [(.placed, true)] := by decide +kernel
theorem test_opened : (after (.opened 0 1 12000 3000) placed).moves.recs.map Move.outcome = [some .done] ∧
    (after (.opened 0 1 12000 3000) placed).findPlace (.floor 1 2) = some (place (.occupied a1)) ∧
    (after (.opened 0 1 9000 9000) carrying).moves.recs.map Move.outcome = [some .dropped] := by decide +kernel
theorem test_crane_drop : (after (.craneFrameDropped 0 .unreadable) yard).port.flags = (Notice.protocol 1).bit ∧
    (after (.craneFrameDropped 0 .checkFailed) yard).port.flags = 0 := by decide +kernel
/-- R56: messages are sent in the order they were placed, and a waiting WINDOW is replaced. -/
theorem test_link_send : ((((Link.initial.place (.cancel 1)).place (.window none)).place (.cancel 2)).place (.window (some (1, 2)))).waiting =
      [.window (some (1, 2)), .cancel 2] ∧
    (after (.linkSend 0) { yard with links := [{ Link.initial with sending := some (255, .cancel 1), waiting := [.cancel 2], nextSeq := 0 }] }).links.map
      Link.sending = [some (0, .cancel 2)] := by decide +kernel
theorem test_freshness : (after (.freshnessExpiry 0) yard).cranes.map Crane.tracking = [.lost] := by decide +kernel
theorem test_no_clock : ((after (.noClock 0) yard).channel 0).state = .fault .noClock ∧
    ((after (.noClock 0) yard).findCrane 1).map (·.raise.fault) = some true := by decide +kernel
theorem test_stuck : ((after (.stuck 0) { yard with channels := { chan with stuckDue := true } :: yard.channels.tail }).channel 0).state =
    .fault .stuck ∧ after (.stuck 0) yard = yard := by decide +kernel
/-- R138: with j = 0, zero 0 and span 65,536 the fast output is the fast weight. -/
theorem test_fast_update : ((after (.fastUpdate 0) { yard with channels := { chan with fastOut := [4] } :: yard.channels.tail }).channel 0).fastWeight =
    some 4 := by decide +kernel
theorem test_slack : (after (.slack 0) { carrying with cranes := [{ crane1 with tongs := .closed, load := .loaded, slack := some 0 }] }).moves.recs.map
    Move.outcome = [some .dropped] ∧
    ((after (.slack 0) { carrying with cranes := [{ crane1 with tongs := .closed, load := .loaded, slack := some 0 }] }).findCoil a1).map Coil.loc =
      some (.astray 5000 2000) := by decide +kernel
/-- A request with a sample waiting on each path of hoist 1. -/
def sampled (p : Purpose) (q : Requester) : State :=
  let paths := (yard.emptyPaths (.hoist 1)).map (fun x => { x with samples := [chanSample 4 0 Calib.unwritten] })
  let run : EngineRun := { engine := 1, started := 0, settle := some 3000, samples := [], paths := paths }
  { yard with weigh := { queue := [{ hoistRun p q with run := some run }], nextArrival := 2, event := 1, outbox := [] } }
theorem test_gross_sample : (after (.grossSample (.hoist 1)) (sampled .read .host)).weigh.queue.map
    (fun r => r.run.map (fun e => e.samples.map (fun g => (g.gross, g.net, g.display)))) = [some [(8, -992, -990)]] := by decide +kernel
theorem test_settle_timeout : (after (.settleTimeout 0) (weighing .read .host)).weigh.queue = [] ∧
    (after (.settleTimeout 0) (weighing .read .host)).points.head?.bind (fun p => p.slot.map ResultRecord.outcome) = some .unstable ∧
    (after (.settleTimeout 0) (weighing .read .host)).port.flags = Notice.weighReady.bit := by decide +kernel
theorem test_arrival : ((after (.arrivalTimer 0) (withBay { bayWith .expecting .arriving with arrival := some 0 })).findBay 1).map
    (fun x => (x.presence, x.phase, x.lamp)) = some (.present, .taring, .stop) := by decide +kernel
theorem test_departure : ((after (.departure 0) (withBay { bayWith .loaded .departing with departure := some 0 })).findBay 1).map
      (fun x => (x.presence, x.phase, x.lamp)) = some (.empty, .none, .off) ∧
    (after (.departure 0) (withBay { bayWith .loaded .departing with departure := some 0 })).port.departures.head? =
      some (some { retired := 0, unauthorised := true }) := by decide +kernel
/-- R156: CHOCK then CLEAR gives SECURED; CLEAR then CHOCK gives CHOCKED with the marker set. -/
theorem test_chock : ((after (.clearLine 0 true) (after (.chockLine 0 true) yard)).findBay 1).map (fun x => (x.security, x.stale)) =
    some (.secured, false) := by decide +kernel
theorem test_clear : ((after (.chockLine 0 true) (after (.clearLine 0 true) yard)).findBay 1).map (fun x => (x.security, x.stale)) =
    some (.chocked, true) := by decide +kernel
theorem test_switch_closes : (after .switchCloses (weighing .zero .host)).weigh.queue = [] ∧
    (after .switchCloses (weighing .zero .host)).points.head?.bind (fun p => p.slot.map ResultRecord.outcome) = some .switchClosed := by
  decide +kernel
theorem test_switch_opens : (after .switchOpens State.reset).switchClosed = false := by decide +kernel
/-- R113, R133: four equal bits give the first output of a filter of order 1 and decimation 4, which is 4. -/
theorem test_bits : let one := fun (s : State) => after (.risingClockEdge 0 true) s
    ((one (one (one (one yard)))).channel 0).fastOut = [4] ∧ ((one (one (one yard))).channel 0).fastOut = [] ∧
    ((one (one yard)).channel 0).runLength = 2 := by decide +kernel

/-! ### States that meet the hypotheses of the statements -/

theorem within_yard : yard.Within := by constructor <;> decide +kernel
theorem keyed_yard : yard.Keyed := by constructor <;> decide +kernel
theorem lamps_yard : yard.LampsShow := by unfold State.LampsShow; decide +kernel
theorem engines_yard : yard.EnginesLaw := by constructor <;> intros <;> simp_all [yard, State.reset]
theorem engines_weighing : (weighing .read .host).EnginesLaw := by
  constructor
  · decide +kernel
  all_goals simp [weighing, hoistRun]
theorem travel_yard : yard.TravelLaw := by
  intro c hc
  simp only [yard, List.mem_singleton] at hc
  subst hc
  exact ⟨by decide +kernel, by decide +kernel, by decide +kernel, fun _ => ⟨(5000, 2000), rfl, by decide +kernel⟩,
    (fun h => by cases h), by decide +kernel⟩
theorem queue_toSource : toSource.QueueLaw := by
  constructor
  · intro n
    refine (List.length_filter_le _ _).trans ?_
    decide
  · intro n
    refine (List.length_filter_le _ _).trans ((List.length_filter_le _ _).trans ?_)
    decide
  · intro e he; cases he
/-- Crane 1 owns zones 1 and 2, its run; no crane owns zone 3. -/
theorem runway_yard : yard.RunwayLaw := by
  have zones : ∀ t z rec, yard.arbiter.table = some t → t.zone? z = some rec →
      (z = 1 ∧ rec.owner = some 1) ∨ (z = 2 ∧ rec.owner = some 1) ∨ (z = 3 ∧ rec.owner = none) := by
    intro t z rec ht hz
    cases ht
    match z with
    | 0 => simp [ZoneTable.zone?, nth?] at hz
    | 1 => simp [ZoneTable.zone?, nth?, table1] at hz; subst hz; simp
    | 2 => simp [ZoneTable.zone?, nth?, table1] at hz; subst hz; simp
    | 3 => simp [ZoneTable.zone?, nth?, table1] at hz; subst hz; simp
    | k + 4 => simp [ZoneTable.zone?, nth?, table1] at hz
  have run : ∀ n, yard.runOf n = if n = 1 then some (1, 2) else none := by
    intro n
    by_cases h : n = 1
    · subst h; decide +kernel
    · have : ¬ 1 = n := fun k => h k.symm
      simp [State.runOf, State.findCrane, yard, crane1, h, this]
  constructor
  · intro t z rec n ht hz
    rw [run]
    rcases zones t z rec ht hz with ⟨rfl, h⟩ | ⟨rfl, h⟩ | ⟨rfl, h⟩ <;> rw [h] <;> split <;> simp_all [inRun] <;> omega
  · intro i j y z hij ⟨t, r, ht, hr, hi⟩ ⟨t', r', ht', hr', hj⟩
    rcases zones t y r ht hr with ⟨_, h⟩ | ⟨_, h⟩ | ⟨_, h⟩ <;> rcases zones t' z r' ht' hr' with ⟨_, h'⟩ | ⟨_, h'⟩ | ⟨_, h'⟩ <;>
      simp_all
  · intro t rec ht hr hs
    cases ht
    simp [table1] at hr
    rcases hr with rfl | rfl | rfl <;> simp_all

/-! Requests: each is fresh where the port keeps none. -/

theorem witness_RequestsAnsweredOnce : (∃ k, (after (.query 1 a1) yard).port.kept = some k ∧ isRequest k.request = true) ∧
    isRequest (.query 1 a1) = true ∧ yard.fresh (.query 1 a1) :=
  ⟨⟨_, rfl, rfl⟩, rfl, fresh_of_none rfl _⟩
theorem witness_FramesThatReachNoBlock : yard.fresh (.badRequest 1 99 []) ∧ yard.port.kept = none ∧ (1026 : Nat) < 65536 :=
  ⟨fresh_of_none rfl _, rfl, by decide⟩
theorem witness_NoticesFollowAckAndMask : yard.fresh (.ack 1 1#44) ∧ yard.fresh (.enable 1 1#44) :=
  ⟨fresh_of_none rfl _, fresh_of_none rfl _⟩
theorem witness_EnterCreatesOrRefuses : yard.fresh (.enter 1 c1 1 5000 1400 1000 1 none none) := fresh_of_none rfl _
theorem witness_QueryReturnsTheRecord : yard.fresh (.query 1 a1) := fresh_of_none rfl _
theorem witness_RetireRemovesOrRefuses : yard.fresh (.retire 1 a1) := fresh_of_none rfl _
theorem witness_AmendWritesNamedFields : yard.fresh (.amend 1 b1 ⟨some 6000, none, none, none, none, none⟩) := fresh_of_none rfl _
/-- Bay 1 tared, with B1 WAITING in its plan, and a lamp that no run leaves there. -/
def taredBay : Bay := { bayWith .ready .present with frontTare := some 6900, rearTare := some 5600, lamp := .depart }
/-- R15: a new width makes the plan check of the tared bay, which keeps its result; the lamp shows its aspect (R158). -/
theorem test_amend_checks_plan : (withBay taredBay).fresh (.amend 1 b1 ⟨none, none, some 900, none, none, none⟩) ∧
    status (.amend 1 b1 ⟨none, none, some 900, none, none, none⟩) (withBay taredBay) = some .ok ∧
    ((after (.amend 1 b1 ⟨none, none, some 900, none, none, none⟩) (withBay taredBay)).findBay 1).map (fun x => (x.planCheck, x.lamp))
      = some (some .passed, .stop) := ⟨fresh_of_none rfl _, by decide +kernel, by decide +kernel⟩
theorem witness_PlaceCreatesOrRefuses : setupYard.fresh (.place 1 c1 (.floor 1 2) 5000 1400 1000 1 none none) := fresh_of_none rfl _
theorem witness_FindOffersCheapestFittingPlaces : yard.fresh (.find 1 a1 (some 8)) ∧ identOk a1 = true ∧
    yard.findCoil a1 = some (coilAt a1 (.place (.entry 1))) := ⟨fresh_of_none rfl _, by decide +kernel, by decide +kernel⟩
theorem test_find_count : status (.find 1 a1 (some 0)) yard = some .outOfRange ∧ status (.find 1 a1 (some 1)) yard = some .ok ∧
    status (.find 1 a1 (some 8)) yard = some .ok ∧ status (.find 1 a1 (some 9)) yard = some .outOfRange := by decide +kernel
theorem witness_BlockMarksExactlyWhatIsNamed : yard.fresh (.block 1 (.row 1)) ∧ yard.fresh (.unblock 1 (.place (.floor 1 2))) ∧
    yard.LampsShow := ⟨fresh_of_none rfl _, fresh_of_none rfl _, lamps_yard⟩
theorem witness_ReadersAnswerAndChangeNothing : yard.fresh (.probe 1 (.row 1)) ∧ yard.fresh (.crane 1 (some 3)) ∧
    yard.fresh (.crane 1 none) ∧ yard.fresh (.zones 1 none) ∧ yard.fresh (.zones 1 (some 32)) ∧ yard.fresh (.moves 1 .all) ∧
    yard.fresh (.moves 1 (.one 1)) ∧ yard.fresh (.moves 1 (.crane 1)) ∧ yard.fresh (.channels 1) ∧ yard.fresh (.calibration 1 none) ∧
    yard.fresh (.calibration 1 (some 13)) ∧ yard.fresh (.bay 1 none) ∧ yard.fresh (.bay 1 (some 4)) ∧ yard.fresh (.notices 1) := by
  refine ⟨?_, ?_, ?_, ?_, ?_, ?_, ?_, ?_, ?_, ?_, ?_, ?_, ?_, ?_⟩ <;> exact fresh_of_none rfl _
theorem test_reader_bounds : status (.zones 1 (some 32)) yard = some .unknown ∧ status (.zones 1 (some 33)) yard = some .outOfRange ∧
    status (.bay 1 (some 4)) yard = some .unknown ∧ status (.bay 1 (some 5)) yard = some .outOfRange ∧
    status (.crane 1 (some 3)) yard = some .unknown ∧ status (.moves 1 (.crane 1)) yard = some .ok := by decide +kernel

/-! Cranes and their links. -/

/-- Crane 1 UNKNOWN with no zone owned, able to track at X 5,000. -/
def untracked : State :=
  { yard with
    cranes := [{ crane1 with tracking := .unknown, run := none, window := none, travel := { crane1.travel with unknown := true } }]
    arbiter := { yard.arbiter with
      table := some { table1 with zones := table1.zones.map (fun z => { z with owner := none }) } } }
theorem witness_TrackingFollowsPositions :
    (∃ c, untracked.findCrane 1 = some c ∧ c.tracking = .unknown) ∧ untracked.findCrane 2 = none ∧
    (∃ t r, untracked.arbiter.table = some t ∧ t.footprint 1000 5000 = some r ∧ TrackableRun t 1 r) ∧
    (∃ c, yard.findCrane 1 = some c ∧ c.tracking ≠ .unknown ∧ c.fresh.isSome = true) := by
  refine ⟨⟨_, rfl, rfl⟩, rfl, ⟨_, (1, 1), rfl, by decide +kernel, ?_⟩, ⟨crane1, rfl, by decide, rfl⟩⟩
  intro z h1 h2
  have : z = 1 := by simp at h1 h2; omega
  subst this
  refine ⟨{ start := 0, kind := .entry, state := .open, owner := none }, by decide +kernel, Or.inl rfl, ?_⟩
  intro y other k hy hk
  match y with
  | 0 => simp [ZoneTable.zone?, nth?] at hy
  | 1 => simp [ZoneTable.zone?, nth?, table1] at hy; subst hy; cases hk
  | 2 => simp [ZoneTable.zone?, nth?, table1] at hy; subst hy; cases hk
  | 3 => simp [ZoneTable.zone?, nth?, table1] at hy; subst hy; cases hk
  | j + 4 => simp [ZoneTable.zone?, nth?, table1] at hy
/-- Crane 1 LOST, and crane 1 with a TRAVEL to X 12,000 as its head. -/
def lostYard : State := { yard with cranes := [{ crane1 with tracking := .lost, travel := { crane1.travel with lost := true } }] }
def travelling : State :=
  { yard with
    moves := { recs := [{ move1 .travelling with kind := .travel, coil := none, source := none, target := some (.runway 12000) }]
               lastId := 1 } }
theorem witness_later_positions :
    (∃ c l, lostYard.findCrane 1 = some c ∧ c.tracking = .lost ∧ lostYard.links[0]? = some l) ∧
    travelling.Keyed ∧ (∃ m, travelling.head 1 = some m ∧ m.state = .travelling ∧ ∃ X, m.target = some (.runway X) ∧
      ((12150 : Int) - X).natAbs ≤ travelling.settings.tolerance ∧ ¬ ((12151 : Int) - X).natAbs ≤ travelling.settings.tolerance) ∧
    yard.head 1 = none ∧ Window.holds crane1.window 19000 = true ∧ Window.holds crane1.window 19001 = false ∧
    (∃ t rec, yard.arbiter.table = some t ∧ t.zone? 2 = some rec ∧ rec.owner = some 1) :=
  ⟨⟨_, _, rfl, rfl, rfl⟩, by constructor <;> decide +kernel, ⟨_, rfl, rfl, _, rfl, by decide +kernel, by decide +kernel⟩,
    by decide +kernel, by decide +kernel, by decide +kernel, _, _, rfl, rfl, rfl⟩
/-- R50, R76, R100: a footprint in zone 1 alone gives zone 2 back; the TRAVEL ends within the tolerance; a crane back from LOST
has its window sent again before the next. -/
theorem test_positions : (after (.position 0 5000 2000) yard).cranes.map Crane.run = [some (1, 1)] ∧
    (after (.position 0 12150 2000) travelling).moves.recs.map Move.outcome = [some .done] ∧
    (after (.position 0 12151 2000) travelling).moves.recs.map Move.outcome = [none] ∧
    ((after (.position 0 19000 2000) lostYard).links.head?.map Link.sending) = some (some (0, .window (some (1000, 19000)))) := by
  decide +kernel
theorem test_first_track : (after (.position 0 5000 2000) untracked).cranes.map (fun c => (c.tracking, c.run)) =
    [(.tracking, some (1, 1))] := by decide +kernel
theorem witness_GrippedTakesOrStrays : (∃ c m, toSource.findCrane 1 = some c ∧ c.tongs ≠ .closed ∧ toSource.head 1 = some m ∧
    m.id = 1 ∧ m.state = .toSource) ∧ (∃ c, gripping.findCrane 1 = some c ∧ c.tongs = .closed) :=
  ⟨⟨_, _, rfl, by decide, rfl, rfl, rfl⟩, ⟨_, rfl, rfl⟩⟩
theorem witness_LiftedPutsCoilOnHook : (∃ c m, gripping.findCrane 1 = some c ∧ c.tongs = .closed ∧ gripping.head 1 = some m ∧
      m.id = 1 ∧ m.coil = some a1 ∧ m.state = .gripped) ∧ (∃ c, toSource.findCrane 1 = some c ∧ c.tongs = .opened) ∧
    (∃ c m, placed.findCrane 1 = some c ∧ c.tongs = .closed ∧ placed.head 1 = some m ∧ m.id = 1 ∧ m.state = .placed) ∧
    (∃ c m, carrying.findCrane 1 = some c ∧ c.tongs = .closed ∧ carrying.head 1 = some m ∧ m.id = 1 ∧ m.state = .carrying) :=
  ⟨⟨_, _, rfl, rfl, rfl, rfl, rfl, rfl⟩, ⟨_, rfl, rfl⟩, ⟨_, _, rfl, rfl, rfl, rfl, rfl⟩, ⟨_, _, rfl, rfl, rfl, rfl, rfl⟩⟩
/-- The head HELD with its coil on the hook and resting. -/
def resting : State := moving { move1 .held with hold := some .mismatch, gripTaken := true } (.hook 1) .closed .resting (.vacated 1)
theorem witness_lifted_from_hold : ∃ c m, resting.findCrane 1 = some c ∧ c.tongs = .closed ∧ resting.head 1 = some m ∧ m.id = 1 ∧
    m.state = .held ∧ resting.onHook m = true ∧ c.load = .resting :=
  ⟨_, _, rfl, rfl, rfl, rfl, rfl, by decide +kernel, rfl⟩
theorem witness_SetDownRestsTheCoil : (carrying.findCrane 1).isSome = true ∧
    (carrying.head 1).any (fun m => m.id == 1 && m.state == .carrying) = true ∧
    ((heldFor .mismatch).head 1).any (fun m => m.state == .held && (heldFor .mismatch).onHook m) = true := by decide +kernel
theorem test_set_in_hold : (after (.setDown 0 1 12000 3000) (heldFor .mismatch)).moves.recs.map (fun m => (m.state, m.offTarget)) =
    [(.held, true)] := by decide +kernel
theorem witness_OpenedReleasesOrEnds : (∃ c m, placed.findCrane 1 = some c ∧ c.tongs ≠ .opened ∧ placed.head 1 = some m ∧ m.id = 1 ∧
      m.state = .placed ∧ m.offTarget = false ∧ m.target = some (.place (.floor 1 2))) ∧
    (∃ m, gripping.head 1 = some m ∧ m.state = .gripped) ∧ (∃ m, carrying.head 1 = some m ∧ m.state = .carrying) ∧
    (∃ m, resting.head 1 = some m ∧ m.state = .held ∧ resting.onHook m = true) :=
  ⟨⟨_, _, rfl, by decide, rfl, rfl, rfl, rfl, rfl⟩, ⟨_, rfl, rfl⟩, ⟨_, rfl, rfl⟩, ⟨_, rfl, rfl, by decide +kernel⟩⟩
theorem test_opened_back : (after (.opened 0 1 5000 2000) resting).moves.recs.map Move.outcome = [some .returned] ∧
    (after (.opened 0 1 9000 9000) resting).moves.recs.map Move.outcome = [some .astray] ∧
    (after (.opened 0 1 5000 2000) gripping).moves.recs.map Move.state = [.toSource] := by decide +kernel
/-- The head HELD with its coil still on the saddle, and the same with a loose coil on the hook. -/
def heldOff : State := moving { move1 .held with hold := some .crossing } (.place (.entry 1)) .closed .loaded (.outgoing 1 a1)
def heldOffLoose : State := { heldOff with coils := heldOff.coils ++ [coilAt c1 (.hook 1)] }
theorem witness_opened_off_hook :
    (∃ m, ((heldOff.hearing 0).openTongs 1).namedHead 1 1 = some m ∧ m.state = .held ∧
      ((heldOff.hearing 0).openTongs 1).onHook m = false ∧ heldOff.hookCoil 1 = none) ∧
    ∃ m, ((heldOffLoose.hearing 0).openTongs 1).namedHead 1 1 = some m ∧ m.state = .held ∧
      ((heldOffLoose.hearing 0).openTongs 1).onHook m = false ∧ (heldOffLoose.hookCoil 1).isSome = true :=
  ⟨⟨_, rfl, rfl, by decide +kernel, by decide +kernel⟩, _, rfl, rfl, by decide +kernel, by decide +kernel⟩
/-- R55: the loose coil is astray where the tongs opened, and the load FREE. -/
theorem test_opened_loose : ((after (.opened 0 1 7000 3000) heldOffLoose).findCoil c1).map Coil.loc = some (.astray 7000 3000) ∧
    (after (.opened 0 1 7000 3000) heldOffLoose).cranes.map Crane.load = [.free] := by decide +kernel
/-- R54: an OPENED that the head takes makes the load FREE, also in GRIPPED and in HELD with an empty hook. -/
theorem test_opened_frees_load : (after (.opened 0 1 5000 2000) (moving { move1 .gripped with gripTaken := true }
      (.place (.entry 1)) .closed .loaded (.outgoing 1 a1))).cranes.map Crane.load = [.free] ∧
    (after (.opened 0 1 5000 2000) heldOff).cranes.map Crane.load = [.free] := by decide +kernel
theorem witness_opened_not_taken : (∃ c, gripping.findCrane 1 = some c ∧ c.tongs = .closed) ∧
    ((gripping.hearing 0).openTongs 1).namedHead 1 7 = none := ⟨⟨_, rfl, rfl⟩, by decide +kernel⟩
theorem witness_CraneLinkCountsAndSendsInOrder : Link.initial.sending = none ∧ Link.initial.waiting = [] ∧
    (∃ sent, (Link.initial.place (.cancel 1)).sending = some sent) ∧
    ((Link.initial.place (.cancel 1)).place (.window none)).waiting = [] ++ .window none :: [] :=
  ⟨rfl, rfl, ⟨_, rfl⟩, rfl⟩
theorem witness_undefined_crane_drops : yard.findCrane 3 = none := by decide +kernel
theorem witness_WindowKeepsFootprintInsideRun : ∃ t, yard.arbiter.table = some t ∧ crane1.run = some (1, 2) := ⟨_, rfl, rfl⟩

/-! Runway and moves. -/

theorem witness_ShutAndOpenChangeZoneState : yard.fresh (.shutZone 1 1) ∧ yard.fresh (.openZone 1 32) :=
  ⟨fresh_of_none rfl _, fresh_of_none rfl _⟩
/-- An entry of crane 1 for move 1. -/
def entry1 : ZoneEntry := { crane := 1, move := 1, run := some (1, 2), urgent := false, carries := true, arrival := 1 }
theorem witness_GrantsNeedEveryZoneAndGiveTheRun : ∃ t c m l, toSource.arbiter.table = some t ∧ toSource.findCrane entry1.crane = some c ∧
    toSource.findMove entry1.move = some m ∧ m.crane = entry1.crane ∧ nth? toSource.links entry1.crane = some l :=
  ⟨_, _, _, _, rfl, rfl, rfl, rfl, rfl⟩
/-- A TRAVEL of crane 2 that waits for runway; cranes 1 and 2 with an entry each for the other's zone. -/
def travel2 : Move :=
  { move1 .zones with id := 2, crane := 2, coil := none, kind := .travel, source := none, target := some (.runway 5000) }
def crossingYard : State :=
  { moving (move1 .zones) (.place (.entry 1)) .opened .free (.outgoing 1 a1) with
    cranes := [{ crane1 with run := some (1, 1) }, { crane1 with num := 2, run := some (2, 3), lastPos := some (15000, 0) }]
    moves := { recs := [move1 .zones, travel2], lastId := 2 }
    arbiter := { yard.arbiter with
      table := some { table1 with zones := table1.zones.zipIdx.map (fun z => { z.1 with owner := some (if z.2 = 0 then 1 else 2) }) }
      requests := [entry1, { entry1 with crane := 2, move := 2, carries := false, arrival := 2 }] } }
theorem witness_crossing : ∃ t a b m, crossingYard.arbiter.table = some t ∧
    crossingYard.arbiter.requests.find? (fun e => e.crane == 1) = some a ∧ a.run = some (1, 2) ∧
    (t.zone? 2).bind Zone.owner = some 2 ∧ crossingYard.arbiter.requests.find? (fun e => e.crane == 2) = some b ∧
    b.run = some (1, 2) ∧ (t.zone? 1).bind Zone.owner = some 1 ∧ ¬ b.arrival < a.arrival ∧ crossingYard.findMove b.move = some m ∧
    m.crane = b.crane ∧ ∀ x ∈ crossingYard.arbiter.requests, x.move = b.move → x.crane = b.crane :=
  ⟨_, _, _, _, rfl, rfl, rfl, rfl, rfl, rfl, rfl, by decide +kernel, rfl, rfl, by decide +kernel⟩
/-- R79: the entry with the higher arrival number goes, its move HELD. -/
theorem test_crossing : (crossingYard.conflicts.arbiter.requests.map ZoneEntry.crane, crossingYard.conflicts.moves.recs.map Move.hold) =
    ([1], [none, some .crossing]) := by decide +kernel
/-- Crane 1 blocked by crane 2 alone, which is idle at an X. -/
def idleYard (x : Int) : State :=
  { crossingYard with
    cranes := [{ crane1 with run := some (1, 1) }, { crane1 with num := 2, run := some (2, 3), lastPos := some (x, 0) }]
    moves := { recs := [move1 .zones], lastId := 1 }
    arbiter := { crossingYard.arbiter with requests := [entry1] } }
theorem witness_idle_blocker : (∃ t c, (idleYard 15000).arbiter.table = some t ∧ (idleYard 15000).findCrane 2 = some c ∧
      c.tracking = .tracking ∧ (idleYard 15000).queue 2 = [] ∧ t.stopOf 2 + c.halfLength = 21000 ∧
      ¬ 21000 ≤ ((idleYard 15000).lastPosOf 2).1 ∧ ¬ (t.length : Int) < 21000 + c.halfLength ∧
      (t.length : Int) < t.stopOf 3 + c.halfLength + c.halfLength) ∧
    21000 ≤ ((idleYard 21000).lastPosOf 2).1 ∧ (idleYard 15000).moves.recs.length < 24 :=
  ⟨⟨_, _, rfl, rfl, rfl, by decide +kernel, by decide +kernel, by decide +kernel, by decide +kernel, by decide +kernel⟩,
    by decide +kernel, by decide +kernel⟩
/-- R80, R81: the idle crane gets a TRAVEL clear of the run; one that is clear gets none; where it cannot stand clear, the entry
is a conflict. -/
theorem test_yield : (((idleYard 15000).seekYieldOf entry1 2).queue 2).map Move.target = [some (.runway 21000)] ∧
    ((idleYard 21000).seekYieldOf entry1 2).moves.recs.length = 1 ∧
    ((idleYard 25000).seekYieldOf { entry1 with run := some (1, 3) } 2).moves.recs.map Move.hold = [some .crossing] := by decide +kernel
theorem test_entry_stop : toSource.entryStop entry1 = none ∧ toSource.entryStop { entry1 with run := none } = some .noRun ∧
    (after (.shutZone 1 2) toSource).entryStop entry1 = some (.shutting 2) := by decide +kernel
theorem witness_NewMoveTakesIdentifierAndStanding : toSource.moves.recs.length ≤ 24 ∧ toSource.Keyed ∧
    (∀ x ∈ toSource.moves.recs, x.id ≠ ({ move1 .queued with id := 2 } : Move).id) ∧ (move1 .queued).state = .queued ∧
    ∃ h, toSource.head 1 = some h :=
  ⟨by decide +kernel, by constructor <;> decide +kernel, by decide +kernel, rfl, _, rfl⟩
theorem witness_MoveAndParkJoinTheirQueues : yard.fresh (.move 1 a1 .auto 1 (some true)) ∧ yard.fresh (.park 1 1 29000) :=
  ⟨fresh_of_none rfl _, fresh_of_none rfl _⟩
theorem test_park_bounds : status (.park 1 1 999) yard = some .outOfRange ∧ status (.park 1 1 1000) yard = some .ok ∧
    status (.park 1 1 29000) yard = some .ok ∧ status (.park 1 4 1000) yard = some .outOfRange := by decide +kernel
/-- Move 1 queued as the head. -/
def queued : State := moving (move1 .queued) (.place (.entry 1)) .opened .free (.outgoing 1 a1)
theorem keyed_queued : queued.Keyed := by constructor <;> decide +kernel
theorem witness_HeadGoesForRunway : queued.Keyed ∧ ∃ m, queued.head 1 = some m ∧ m.state = .queued ∧ m.kind = .carry ∧
    queued.judgeTarget m = .pass := ⟨keyed_queued, _, rfl, rfl, rfl, by decide +kernel⟩
/-- The list of zone entries after 65,535 arrivals. -/
def fullArrivals : Arbiter :=
  { yard.arbiter with nextArrival := 65536, requests := [{ entry1 with arrival := 700 }, { entry1 with crane := 2, arrival := 3 }] }
theorem witness_renumbered : fullArrivals.requests.Pairwise (fun x y => x.arrival ≠ y.arrival) ∧ 65535 < fullArrivals.nextArrival ∧
    fullArrivals.readyArrival.requests.map ZoneEntry.arrival = [2, 1] := by decide +kernel
/-- As `queued`, its target no longer fitting: the row takes no coil as wide. -/
def unfitting : State := { queued with store := { queued.store with
  rows := queued.store.rows.map (fun r => { r with cfg := { r.cfg with maxWidth := 999 } }) } }
theorem witness_head_fails : ∃ m, unfitting.head 1 = some m ∧ m.kind = .carry ∧ unfitting.judgeTarget m ≠ .pass :=
  ⟨_, rfl, rfl, by decide +kernel⟩
theorem witness_ResumeAndAcceptSendHeldMovesOn : yard.fresh (.resume 1 1) ∧ yard.fresh (.accept 1 1) ∧
    (∃ m, (heldFor .unsettled).findMove 1 = some m ∧ m.state = .held ∧ m.target ≠ none ∧ m.hold = some .unsettled) ∧
    (∃ m, (heldFor .crossing).findMove 1 = some m ∧ m.state = .held ∧ m.hold = some .crossing) ∧
    (∃ m, (heldFor .strayGrip).findMove 1 = some m ∧ m.state = .held ∧ m.hold = some .strayGrip) ∧
    ∃ c, (heldFor .unsettled).findCrane 1 = some c ∧ c.load ≠ .resting :=
  ⟨fresh_of_none rfl _, fresh_of_none rfl _, ⟨_, rfl, rfl, by decide, rfl⟩, ⟨_, rfl, rfl, rfl⟩, ⟨_, rfl, rfl, rfl⟩, ⟨_, rfl, by decide⟩⟩
theorem test_resume_reasons : (after (.resume 1 1) (heldFor .crossing)).moves.recs.map Move.hold = [none] ∧
    (after (.resume 1 1) (heldFor .strayGrip)).moves.recs.map Move.state = [.toSource] ∧ status (.resume 1 1) resting = some .wrongState := by
  decide +kernel
theorem witness_RetargetReservesNewTarget : (heldFor .mismatch).fresh (.retarget 1 1 (some .auto)) ∧
    ∃ m c, (heldFor .mismatch).findMove 1 = some m ∧ m.state = .held ∧ (heldFor .mismatch).moveCoil m = some c :=
  ⟨fresh_of_none rfl _, _, _, rfl, rfl, rfl⟩
theorem witness_AbortEndsAndDiscardRemoves : toSource.fresh (.abort 1 1) ∧ toSource.fresh (.discard 1 none) ∧
    toSource.fresh (.discard 1 (some 1)) := ⟨fresh_of_none rfl _, fresh_of_none rfl _, fresh_of_none rfl _⟩
theorem witness_EndedMoveLeavesNothingBehind : toSource.Keyed ∧ (∃ m, toSource.findMove m.id = some m ∧ 1 ≤ m.crane ∧ m.crane ≤ 3 ∧
      m.coil = some a1 ∧ m.source = some (.place (.entry 1)) ∧ m.target = some (.place (.floor 1 2))) ∧
    toSource.findPlace (.entry 1) = some (place (.outgoing 1 a1)) ∧ toSource.findPlace (.floor 1 2) = some (place (.incoming 1 a1)) ∧
    carrying.findPlace (.entry 1) = some (place (.vacated 1)) :=
  ⟨by constructor <;> decide +kernel, ⟨move1 .toSource, rfl, by decide, by decide, rfl, rfl, rfl⟩, by decide +kernel,
    by decide +kernel, by decide +kernel⟩
/-- Move 1 carried to cradle 1 of a LOADING bay. -/
def toCradle : State :=
  { moving { move1 .placed with source := some (.hook 1), target := some (.place (.cradle 1 1)) } (.hook 1) .closed .resting .free with
    bays := [{ bayWith .loading .present with
      cradles := [place (.incoming 1 a1), place .free], plan := [{ coil := a1, cradle := 1, status := .moving 1 }] }] }
theorem witness_cradle_target : (∃ m x c e, toCradle.findMove 1 = some m ∧ m.coil = some a1 ∧
      m.target = some (.place (.cradle 1 1)) ∧ m.source = some (.hook 1) ∧ toCradle.findBay 1 = some x ∧
      nth? x.cradles 1 = some c ∧ c.state = .incoming m.id a1 ∧
      x.plan.filter (fun k => k.coil == a1 && k.cradle == 1) = [e] ∧ e.status = .moving m.id ∧ x.truck.isSome = true) ∧
    toSource.isHead (move1 .toSource) = true ∧ (toSource.queue 1).tail.head? = none :=
  ⟨⟨_, _, _, _, rfl, rfl, rfl, rfl, rfl, rfl, rfl, rfl, rfl, rfl⟩, by decide +kernel, by decide +kernel⟩
/-- R167, R174: the entry is PLACED, the bay LOADED, and a round started. -/
theorem test_cradle_done : (after (.opened 0 1 18000 5000) toCradle).bays.map
    (fun x => (x.plan.map PlanEntry.status, x.phase, x.round.isSome)) = [([.placed], .loaded, true)] := by decide +kernel
theorem witness_SlackLosesTheLoad : ∃ c, ({ carrying with cranes := [{ crane1 with load := .loaded, slack := some 0 }] } : State).findCrane 1 =
    some c ∧ c.slack.isSome = true ∧ c.load = .loaded := ⟨_, rfl, rfl, rfl⟩

/-- Move 1 grips A1, the one PLACED coil of a LOADED bay, on cradle 2, with or without a round. -/
def offCradle (r : Option Round) : State :=
  { moving { move1 .gripped with source := some (.place (.cradle 1 2)), gripTaken := true } (.place (.cradle 1 2)) .closed .free
      (.occupied c1) with
    bays := [{ bayWith .loaded .present with
      cradles := [place .free, place (.outgoing 1 a1)], plan := [{ coil := a1, cradle := 2, status := .placed }], round := r
      frontRequest := r.map (fun _ => { purpose := .place, retry := 0 }) }] }
def round0 : Round := { front := 5000, rear := 0, band := 300, frontNet := none, rearNet := none }
theorem witness_lifted_off_cradle (r : Option Round) : ∃ m x, (offCradle r).head 1 = some m ∧ m.state = .gripped ∧
    m.source = some (.place (.cradle 1 2)) ∧ (offCradle r).findBay 1 = some x ∧ x.round = r :=
  ⟨_, _, rfl, rfl, rfl, rfl, rfl⟩
/-- R96, R167, R174: the cradle is VACATED, the entry WAITING, the round and its PLACE gone, the phase as it was. -/
theorem test_lifted_off_cradle : ∀ r ∈ [none, some round0],
    (after (.lifted 0 1 18000 5000) (offCradle r)).bays.map (fun x => (x.plan.map PlanEntry.status, x.phase)) =
      [([.waiting], .loaded)] ∧
    (after (.lifted 0 1 18000 5000) (offCradle r)).bays.map (fun x => (x.round, x.frontRequest)) = [(none, none)] ∧
    (after (.lifted 0 1 18000 5000) (offCradle r)).bays.map (fun x => x.cradles.map Place.state) = [[.free, .vacated 1]] := by
  decide +kernel

/-- R47, R63: where zones meet, and what a footprint of half-length 1,000 overlaps there. -/
theorem test_zone_edges : table1.zoneAt (-1) = none ∧ table1.zoneAt 0 = some 1 ∧ table1.zoneAt 9999 = some 1 ∧
    table1.zoneAt 10000 = some 2 ∧ table1.zoneAt 30000 = some 3 ∧ table1.zoneAt 30001 = none ∧
    table1.footprint 1000 11000 = some (2, 2) ∧ table1.footprint 1000 10999 = some (1, 2) ∧
    table1.footprint 1000 19000 = some (2, 2) ∧ table1.footprint 1000 19001 = some (2, 3) := by decide +kernel
theorem witness_zone_edges : (table1.zones.map Zone.start).Pairwise (· < ·) ∧ table1.zones.head?.map Zone.start = some 0 ∧
    ∀ z ∈ table1.zones, z.start < table1.length := by decide +kernel

/-- Bay 1 READY and tared, with B1 WAITING for cradle 1 and A1 for cradle 2. -/
def readyBay : Bay :=
  { bayWith .ready .present with
    frontTare := some 7400, rearTare := some 6300
    plan := [{ coil := b1, cradle := 1, status := .waiting }, { coil := a1, cradle := 2, status := .waiting }] }
/-- A move of B1 to a cradle of bay 1, which A1 on the saddle and the nest over FLOOR(1, 1) may forbid. -/
def load (k : Nat) (x : Bay) : Option Status := status (.move 1 b1 (.named (.cradle 1 k)) 1 none) (withBay x)
theorem witness_move_loads : (withBay readyBay).MayLoad readyBay 1 1 b1 ∧ ¬ (withBay readyBay).MayLoad readyBay 1 2 a1 ∧
    (offCradle none).findBay 1 = some (offCradle none).bays.head! ∧
    { (offCradle none) with moves := State.reset.moves }.MayUnload (offCradle none).bays.head! 1 a1 ∧
    (toSource.queue 1 = [] ++ move1 .toSource :: [] ∧ toSource.Keyed) := by
  refine ⟨⟨⟨[], _, _, rfl, by simp, rfl, rfl, rfl⟩, by simp [readyBay], by simp [withBay, yard, State.reset]⟩, ?_, rfl,
    ⟨⟨[], _, [], rfl, by simp, rfl, rfl⟩, by simp [offCradle], by simp [State.reset]⟩, rfl, by constructor <;> decide +kernel⟩
  rintro ⟨⟨before, e, behind, hp, hb, he, hc, _⟩, _⟩
  cases before with
  | nil =>
    simp only [readyBay, List.nil_append, List.cons.injEq] at hp
    rw [← hp.1] at hc; exact absurd hc (by decide)
  | cons y l =>
    simp only [readyBay, List.cons_append, List.cons.injEq] at hp
    exact hb y List.mem_cons_self (hp.1 ▸ rfl)
/-- R88 step 12, R170, R172: what a cradle target answers. -/
theorem test_move_to_cradle : load 1 readyBay = some .ok ∧ load 2 readyBay = some .planOrder ∧ load 3 readyBay = some .unknown ∧
    load 1 { readyBay with phase := .taring } = some .bayState ∧ load 1 { readyBay with hold := some .deviation } = some .onHold ∧
    load 1 { readyBay with cradles := [{ state := .free, blocked := true }, place .free] } = some .placeBusy ∧
    load 1 { readyBay with rearTare := some 24000 } = some .axleLimit ∧
    load 1 { readyBay with phase := .dismissed } = some .bayState := by decide +kernel
/-- R88 step 11: a coil below a nest that is not FREE, and one on a cradle of a DISMISSED bay or behind a MOVING entry. -/
theorem test_move_sources :
    let nested : State :=
      { yard with store := { yard.store with rows := yard.store.rows.map (fun r => { r with nests := [place (.occupied c1)] }) } }
    let off := fun (x : Bay) => status (.move 1 a1 .auto 1 none)
      { yard with bays := [x], coils := [coilAt a1 (.place (.cradle 1 2))] }
    let lying := { (offCradle none).bays.head! with cradles := [place .free, place (.occupied a1)] }
    status (.move 1 b1 .auto 1 none) nested = some .trapped ∧ off lying = some .ok ∧
      off { lying with phase := .dismissed } = some .bayState ∧
      off { lying with plan := lying.plan ++ [{ coil := b1, cradle := 1, status := .moving 9 }] } = some .planOrder := by
  decide +kernel
/-- R89, R90: the queue place in the answers, 1 for the head. -/
theorem test_queue_places : (after (.move 1 b1 (.named (.cradle 1 1)) 1 none) (withBay readyBay)).answered =
      some (Answer.ok (.accepted 1 (some (.cradle 1 1)) 1)) ∧
    (after (.park 1 1 12000) toSource).answered = some (Answer.ok (.accepted 2 none 2)) := by decide +kernel

/-- R92, R102: a target passes, is unfit on hold, and over an axle limit where the tares leave no room. -/
theorem test_judge_target :
    let judge := fun (f : Bay → Bay) => { toCradle with bays := toCradle.bays.map f }.judgeTarget
      { move1 .placed with target := some (.place (.cradle 1 1)) }
    judge id = .pass ∧ judge (fun x => { x with hold := some .unsettled }) = .unfit ∧ judge (fun x => { x with phase := .dismissed }) = .unfit ∧
      judge (fun x => { x with frontTare := some 7400, rearTare := some 24000 }) = .axle := by decide +kernel
/-- R104: a hold takes the CHECK of its move from the weigh queue, and leaves one of another. -/
theorem witness_hold_ends_check :
    (∀ r ∈ (weighing .check (.move 1)).weigh.queue, r.requesters.count (.move 1) ≤ 1) ∧
    ((weighing .check (.move 1)).holdMove (move1 .weighing) .truckGone).weigh.queue = [] ∧
    ((weighing .check (.move 2)).holdMove (move1 .weighing) .truckGone).weigh.queue.length = 1 ∧
    ((weighing .check (.move 1)).holdMove (move1 .weighing) .truckGone).port.flags = (Notice.moveHeld 1).bit := by decide +kernel

/-- R33, R166: a reserved cradle; R36, R104: a withdrawn one. -/
theorem test_reserve_and_withdraw :
    let v := (withBay readyBay).reserveTarget 7 b1 (.cradle 1 1)
    let w := toCradle.withdrawTarget { move1 .placed with target := some (.place (.cradle 1 1)) }
    v.bays.map (fun x => (x.phase, x.plan.map PlanEntry.status, x.cradles.map Place.state)) =
      [(.loading, [.moving 7, .waiting], [.incoming 7 b1, .free])] ∧
    w.bays.map (fun x => (x.phase, x.plan.map PlanEntry.status, x.cradles.map Place.state)) =
      [(.loading, [.waiting], [.free, .free])] ∧
    w.moves.recs.map (fun m => (m.target, m.offTarget)) = [(none, true)] := by decide +kernel
theorem witness_reserve_and_withdraw : (withBay readyBay).findBay 1 = some readyBay ∧ readyBay.phase = .ready ∧
    (∃ x, toCradle.findBay 1 = some x ∧ ∃ e ∈ x.plan, e.coil = a1 ∧ e.cradle = 1 ∧ e.status = .moving 1) ∧
    (∃ x, toCradle.findPlace (.cradle 1 1) = some x ∧ x.state = .incoming 1 a1) :=
  ⟨rfl, rfl, ⟨_, rfl, _, List.mem_singleton.2 rfl, rfl, rfl, rfl⟩, _, rfl, rfl⟩

/-! Channels, engines and calibration. -/

theorem witness_ClockEdgeFeedsFiltersAndDetectors : (yard.channel 0).state = .running ∧ (yard.channel 0).stuckDue = false ∧
    (yard.channel 0).cfg = some chanCfg ∧ (yard.channel 2).state ≠ .running := by decide +kernel
/-- The yard with a stuck run reached on channel 0 and a filter output waiting. -/
def due (ch : Nat) : State :=
  { yard with channels := yard.channels.set ch { chan with stuckDue := true, fastOut := [4] } }
theorem within_due (ch : Nat) : (due ch).Within := by
  refine { within_yard with channels := ?_ }
  simp only [due, List.length_set]
  exact within_yard.channels
theorem witness_ChannelFaultStopsItsWeighPoint : (due 0).Within ∧ ((due 0).channel 0).state = .running ∧
    ((due 0).channel 0).stuckDue = true ∧ ((due 0).channel 0).noClock.isSome = true := ⟨within_due 0, by decide +kernel⟩
theorem witness_ClearRestartsChannelOrFreesCrane : faulted.fresh (.clearChannel 1 13) ∧ (weighed 60000).fresh (.clearCrane 1 3) :=
  ⟨fresh_of_none rfl _, fresh_of_none rfl _⟩
theorem witness_FastUpdateDrivesWatchesAndLevels : (due 0).Within ∧ ((due 0).channel 0).state = .running ∧
    ((due 0).channel 0).fastOut = 4 :: [] ∧ pointOfChannel 0 = .hoist 1 ∧ (∃ c, (due 0).findCrane 1 = some c) ∧
    ((due 6).channel 6).fastOut = 4 :: [] ∧ sideOf (pointOfChannel 6) = some (1, .front) ∧ (∃ x, (due 6).findBay 1 = some x) :=
  ⟨within_due 0, by decide +kernel, by decide +kernel, by decide +kernel, ⟨_, rfl⟩, by decide +kernel, by decide +kernel, ⟨_, rfl⟩⟩
theorem witness_fast_update_undefined : (due 13).Within ∧ ((due 13).channel 13).state = .running ∧
    ((due 13).channel 13).fastOut = 4 :: [] ∧ pointOfChannel 13 = .rear 4 ∧ (due 13).findBay 4 = none ∧
    ((due 4).channel 4).fastOut = 4 :: [] ∧ pointOfChannel 4 = .hoist 3 ∧ (due 4).findCrane 3 = none :=
  ⟨within_due 13, by decide +kernel⟩
/-- Bay 1 with both levels given. -/
def levels (x : Bay) (f r : Level) : State :=
  { withBay x with
    points := (yard.points.set (Side.front.point 1).index { Point.initial with level := f }).set (Side.rear.point 1).index
      { Point.initial with level := r } }
theorem witness_levels : (levels (bayWith .expecting .empty) .low .low).Within ∧
    (levels (bayWith .expecting .empty) .low .low).LampsShow ∧
    (levels (bayWith .expecting .empty) .low .low).levelOf 1 .front = .low ∧
    (levels { bayWith .taring .present with frozen := true } .fault .high).levelOf 1 .front = .fault :=
  ⟨by constructor <;> decide +kernel, by unfold State.LampsShow; decide +kernel, by decide +kernel, by decide +kernel⟩
/-- R152 to R154, R159: HIGH makes EMPTY ARRIVING; LOW on both makes PRESENT DEPARTING; the thaw of a TARING bay places both
TAREs, and none comes while the other platform is in FAULT. -/
theorem test_levels :
    ((levels (bayWith .expecting .empty) .low .low).setLevel 1 .front .high).bays.map (fun x => (x.presence, x.arrival)) =
      [(.arriving, some 3000)] ∧
    ((levels (bayWith .loading .present) .low .high).setLevel 1 .rear .low).bays.map (fun x => (x.presence, x.departure)) =
      [(.departing, some 5000)] ∧
    ((levels { bayWith .taring .present with frozen := true } .fault .high).setLevel 1 .front .high).bays.map
      (fun x => (x.frozen, x.frontRequest.isSome, x.rearRequest.isSome)) = [(false, true, true)] ∧
    ((levels { bayWith .taring .present with frozen := true } .fault .fault).setLevel 1 .front .none).bays.map
      (fun x => (x.frozen, x.frontRequest.isSome, x.rearRequest.isSome)) = [(true, false, false)] := by decide +kernel
theorem witness_fault_not_due : (yard.channel 2).state ≠ .running ∧ (yard.channel 0).stuckDue = false := by decide +kernel
theorem witness_PeaksAndResultsAreReadOnce : yard.fresh (.peaks 1 none) ∧ yard.fresh (.peaks 1 (some (.hoist 3))) ∧
    yard.fresh (.weighResult 1 (.rear 4)) := ⟨fresh_of_none rfl _, fresh_of_none rfl _, fresh_of_none rfl _⟩
theorem unloaded_yard : yard.Unloaded (.hoist 1) := fun c h => by cases h; rfl
theorem loaded_carrying : ¬ carrying.Unloaded (.hoist 1) := fun h => absurd (h _ rfl) (by decide)
theorem witness_HostRequestsArePlacedAndSwitchedOff : yard.fresh (.weigh 1 (.hoist 1)) ∧ yard.fresh (.zero 1 (.hoist 1)) ∧
    yard.fresh (.span 1 (.hoist 1) 250000) ∧ (WeighPoint.hoist 1).valid = true ∧ (WeighPoint.hoist 4).valid = false ∧
    yard.switchClosed = false ∧ yard.Unloaded (.hoist 1) ∧ ¬ carrying.Unloaded (.hoist 1) ∧ (∀ ch ∈ (WeighPoint.hoist 1).channels,
      (yard.channel ch).state ≠ .unconfigured) ∧ (∃ ch ∈ (WeighPoint.hoist 2).channels, (yard.channel ch).state = .unconfigured) ∧
    (∃ r ∈ (weighing .zero .host).weigh.queue, r.point = .hoist 1 ∧ r.purpose = .zero) :=
  ⟨fresh_of_none rfl _, fresh_of_none rfl _, fresh_of_none rfl _, by decide +kernel, by decide +kernel, by decide +kernel,
    unloaded_yard, loaded_carrying, by decide +kernel, ⟨2, by decide +kernel, by decide +kernel⟩, _, List.mem_singleton.2 rfl, rfl, rfl⟩
/-- Five host requests on hoist 1. -/
def fullWeigh : State := { yard with weigh := { queue := List.replicate 5 { hoistRun .span .host with run := none }
                                                nextArrival := 2, event := 1, outbox := [] } }
theorem test_weigh_full : status (.weigh 1 (.hoist 1)) fullWeigh = some .queueFull ∧ status (.zero 1 (.hoist 1)) fullWeigh = some .busy := by
  decide +kernel
theorem witness_ChecksStartAtOnceAndNoEngineIdles : yard.EnginesLaw ∧ yard.weigh.nextArrival ≤ 65535 ∧
    yard.weigh.queue.any (mergeable (.hoist 1) .check) = false ∧ yard.pointRunning (.hoist 1) = true ∧
    yard.runningOn (.hoist 1) = none ∧ yard.freeEngine = some 1 ∧ (weighing .read .host).EnginesLaw ∧
    (∃ x, (weighing .read .host).runningOn (.hoist 1) = some x ∧ x.urgent = false ∧ x.run.map EngineRun.engine = some 1) :=
  ⟨engines_yard, by decide, by decide +kernel, by decide +kernel, by decide +kernel, by decide +kernel, engines_weighing, _, rfl,
    rfl, rfl⟩
/-- Two WAITING READs of hoist 1, and the queue after 65,535 arrivals. -/
def twoReads : State :=
  { yard with
    weigh := { queue := [{ hoistRun .check (.move 1) with arrival := 700 }, { hoistRun .read .host with run := none, arrival := 3 },
                         { hoistRun .read .host with run := none, arrival := 9 }]
               nextArrival := 65536, event := 1, outbox := [] } }
theorem witness_merge_and_renumber :
    twoReads.weigh.queue = [{ hoistRun .check (.move 1) with arrival := 700 }] ++
      { hoistRun .read .host with run := none, arrival := 3 } :: [{ hoistRun .read .host with run := none, arrival := 9 }] ∧
    twoReads.weigh.queue.Pairwise (fun x y => x.arrival ≠ y.arrival) ∧ 65535 < twoReads.weigh.nextArrival ∧
    twoReads.weigh.readyArrival.queue.map WeighRequest.arrival = [3, 1, 2] ∧
    (twoReads.placeRequest (.hoist 1) .read .host 0 0).weigh.queue.map (fun r => r.requesters.length) = [1, 2, 1] := by decide +kernel
/-- A CHECK on a hoist that does not run ends FAULT at once. -/
theorem witness_check_at_fault : faulted.EnginesLaw ∧ faulted.weigh.nextArrival ≤ 65535 ∧
    faulted.weigh.queue.any (mergeable (.hoist 1) .check) = false ∧ faulted.runningOn (.hoist 1) = none ∧
    faulted.freeEngine = some 1 ∧ faulted.pointRunning (.hoist 1) = false ∧
    (faulted.placeRequest (.hoist 1) .check (.move 1) 0 1).weigh.outbox.map (fun d => d.result.outcome) = [.fault] :=
  ⟨by constructor <;> intros <;> simp_all [faulted, yard, State.reset], by decide +kernel⟩
theorem witness_host_result : yard.Within ∧ (WeighPoint.hoist 1).valid = true := ⟨within_yard, by decide +kernel⟩
theorem witness_GrossSamplesAndTimeoutsEndRequests : (∃ r e, (sampled .read .host).runningOn (.hoist 1) = some r ∧ r.run = some e ∧
      ∃ l, e.paths.mapM (fun p => p.samples.head?) = some l) ∧
    (∃ r e, (weighing .read .host).runningOn (.hoist 1) = some r ∧ r.run = some e ∧ ∃ p ∈ e.paths, p.samples = []) ∧
    yard.runningOn (.hoist 1) = none ∧ (weighing .read .host).EnginesLaw ∧
    (∃ r e, (weighing .read .host).engineRequest 1 = some r ∧ r.run = some e) ∧ yard.engineRequest 1 = none :=
  ⟨⟨_, _, rfl, rfl, _, rfl⟩, ⟨_, _, rfl, rfl, _, List.mem_cons_self, rfl⟩, rfl, engines_weighing, ⟨_, _, rfl, rfl⟩, rfl⟩
theorem witness_RoundingAndSincArithmetic : (0 : Nat) < 10 ∧ 1 ≤ (3 : Nat) ∧ 1 ≤ (256 : Nat) := by decide
/-- A STABLE result on hoist 1 with shifted samples and zeroed counts. -/
def result (v z : Int) : ResultRecord :=
  { point := .hoist 1, purpose := .zero, outcome := .stable, counts := [0, 0], retry := 0, mass := 100, verdict := none, stored := none
    sample := some { chans := [⟨v, v, z, 0, false⟩, ⟨0, 0, 0, 0, false⟩], gross := 0, net := 0, display := 0, saturated := false } }
theorem witness_ZeroAndSpanStoreByVerdictTables : yard.calib.length = 14 ∧ (result 1 1).point.valid = true ∧
    (∀ g, (result 1 1).sample = some g → g.chans.length = (result 1 1).point.channels.length) ∧ yard.Unloaded (.hoist 1) ∧
    ¬ carrying.Unloaded (.hoist 1) :=
  ⟨by decide +kernel, by decide +kernel, fun g h => by cases h; rfl, unloaded_yard, loaded_carrying⟩
/-- R148: 2^23 − 1 is stored, 2^23 is not; R149: no positive sum, no span. -/
theorem test_verdicts : (yard.judgeZero (result 8388607 0)).2.verdict = some .stored ∧
    (yard.judgeZero (result 8388608 0)).2.verdict = some .outOfRange ∧
    (yard.judgeZero (result (-8388608) 0)).2.verdict = some .stored ∧ (carrying.judgeZero (result 0 0)).2.verdict = some .wrongState ∧
    (yard.judgeSpan (result 0 0)).2.verdict = some .outOfRange ∧ (yard.judgeSpan (result 0 1)).2.verdict = some .outOfRange ∧
    ((yard.judgeSpan (result 0 100)).1.calibOf 1).span = 65536 := by decide +kernel
/-- Move 1 in WEIGHING. -/
def checking : State := moving { move1 .weighing with gripTaken := true } (.hook 1) .closed .loaded (.vacated 1)
theorem witness_CheckResultDecidesTheMove : (∃ m, toSource.findMove 1 = some m ∧ m.state ≠ .weighing) ∧
    ∃ m c, checking.findMove 1 = some m ∧ m.state = .weighing ∧ checking.moveCoil m = some c ∧ checking.judgeTarget m = .pass :=
  ⟨⟨_, rfl, by decide⟩, _, _, rfl, rfl, rfl, by decide +kernel⟩
/-- R101, R142: 500 kg is written, 499 kg is a WEIGH_FAULT; 5,200 is VERIFIED against 5,000, 5,201 is not. -/
theorem test_check_result :
    let shows := fun (v : Int) => ((checking.checkResult 1 { result 0 0 with sample := some ⟨[], v, v, v, false⟩ }).moves.recs.map
      (fun m => (m.state, m.hold)))
    shows 499 = [(.held, some .weighFault)] ∧ shows 500 = [(.held, some .mismatch)] ∧ shows 5200 = [(.carrying, none)] ∧
      shows 5201 = [(.held, some .mismatch)] := by decide +kernel

/-- A STABLE result of a platform of bay 1. -/
def bayResult (d : Side) (p : Purpose) (v : Int) : ResultRecord :=
  { result 0 0 with point := d.point 1, purpose := p, counts := [0], sample := some ⟨[], v, v, v, false⟩ }
/-- Bay 1 with the front candidate 6,900; and in a round that expects 0 on both platforms within 300. -/
def taringBay : State := levels { bayWith .taring .present with frontCandidate := some 6900 } .high .high
def roundBay : State :=
  levels { bayWith .loading .present with round := some { front := 0, rear := 0, band := 300, frontNet := some 300, rearNet := none } }
    .high .high
theorem witness_bay_results : (∃ x, taringBay.findBay 1 = some x ∧ x.phase = .taring ∧ x.frontCandidate = some 6900 ∧
      (bayResult .rear .tare 6300).point = Side.rear.point 1 ∧ (bayResult .rear .tare 6300).outcome = .stable ∧
      (bayResult .rear .tare 6300).sample.isSome = true ∧ x.truck = some truck1) ∧
    ∃ x k, roundBay.findBay 1 = some x ∧ (bayResult .rear .place 301).point = Side.rear.point 1 ∧ x.round = some k ∧
      k.frontNet = some 300 :=
  ⟨⟨_, rfl, rfl, rfl, rfl, rfl, rfl, rfl⟩, _, _, rfl, rfl, rfl, rfl⟩
/-- R159, R175: both candidates are the tares, with READY; a net of 300 is within the band, 301 is DEVIATION. -/
theorem test_bay_results :
    (taringBay.deliver { requester := .bay 1, result := bayResult .rear .tare 6300 }).bays.map
      (fun x => (x.frontTare, x.rearTare, x.phase, x.hold)) = [(some 6900, some 6300, .ready, none)] ∧
    (roundBay.deliver { requester := .bay 1, result := bayResult .rear .place 300 }).bays.map Bay.hold = [none] ∧
    (roundBay.deliver { requester := .bay 1, result := bayResult .rear .place 301 }).bays.map Bay.hold = [some .deviation] := by
  decide +kernel

/-! Bays, mode, layout, settings. -/

theorem witness_UnholdAndDismissActOnBay : (withBay (bayWith .ready .present)).fresh (.unhold 1 1) ∧
    (withBay (bayWith .ready .present)).LampsShow ∧ (withBay (bayWith .taring .present)).fresh (.dismiss 1 1) :=
  ⟨fresh_of_none rfl _, by unfold State.LampsShow; decide +kernel, fresh_of_none rfl _⟩
theorem witness_AnnounceMakesTruckAndPlan : yard.fresh (.announce 1 1 truck1 [⟨b1, 1⟩]) ∧ yard.announceRefusal bay1 truck1 [⟨b1, 1⟩] = none :=
  ⟨fresh_of_none rfl _, by decide +kernel⟩
/-- R165, R168: seven entries are too many, and a cradle 99 mm from the kingpin is out of range. -/
theorem test_announce_bounds : status (.announce 1 1 { truck1 with cradles := [⟨99, 1800⟩] } [⟨b1, 1⟩]) yard = some .outOfRange ∧
    status (.announce 1 1 { truck1 with cradles := [⟨7600, 1800⟩] } [⟨b1, 1⟩]) yard = some .ok ∧
    status (.announce 1 1 { truck1 with cradles := [⟨7601, 1800⟩] } [⟨b1, 1⟩]) yard = some .outOfRange ∧
    status (.announce 1 1 truck1 []) yard = some .outOfRange ∧ status (.announce 1 1 truck1 (List.replicate 7 ⟨b1, 1⟩)) yard =
      some .outOfRange := by decide +kernel
theorem witness_ReplanReplacesWaitingEntries : (withBay (bayWith .loading .present)).fresh (.replan 1 1 [⟨a1, 2⟩]) ∧
    (withBay (bayWith .loading .present)).planRefusal truck1.cradles [] (some 1) [⟨a1, 2⟩] = none :=
  ⟨fresh_of_none rfl _, by decide +kernel⟩
/-- Bay 1 with A1 WAITING on cradle 1 and B1 PLACED on cradle 2. -/
def partPlaced : State :=
  { withBay { bayWith .loading .present with
      cradles := [place .free, place (.occupied b1)]
      plan := [{ coil := a1, cradle := 1, status := .waiting }, { coil := b1, cradle := 2, status := .placed }] } with
    coils := [{ coilAt a1 (.place (.entry 1)) with alloc := some ⟨1, 1⟩ },
              { coilAt b1 (.place (.cradle 1 2)) with alloc := some ⟨1, 2⟩ }] }
/-- R10: the index of a PLACED coil follows its entry to the front of the plan. -/
theorem test_replan_index : ((after (.replan 1 1 []) partPlaced).findCoil b1).bind Coil.alloc = some ⟨1, 1⟩ ∧
    ((after (.replan 1 1 []) partPlaced).findCoil a1).bind Coil.alloc = none ∧
    ∃ x, partPlaced.findBay 1 = some x ∧ (x.plan.filter (fun e => e.status == .placed))[0]? = some ⟨b1, 2, .placed⟩ :=
  ⟨by decide +kernel, by decide +kernel, _, rfl, rfl⟩
theorem witness_ArrivalMakesTruckPresent : ∃ x, (withBay { bayWith .expecting .arriving with arrival := some 0 }).findBay 1 = some x ∧
    x.arrival.isSome = true ∧ x.presence = .arriving := ⟨_, rfl, rfl, rfl⟩
/-- Bay 1 about to be left, with move 1 on its way to cradle 1. -/
def leaving : State :=
  { moving { move1 .toSource with target := some (.place (.cradle 1 1)) } (.place (.entry 1)) .opened .free (.outgoing 1 a1) with
    bays := [{ bayWith .loaded .departing with departure := some 0 }] }
theorem witness_DepartureClearsTheBay : (∃ x, leaving.findBay 1 = some x ∧ x.departure.isSome = true ∧ x.presence = .departing) ∧
    leaving.Keyed ∧ leaving.Within :=
  ⟨⟨_, rfl, rfl, rfl⟩, by constructor <;> decide +kernel, by constructor <;> decide +kernel⟩
theorem test_departure_holds_move : (after (.departure 0) leaving).moves.recs.map (fun m => (m.state, m.hold, m.target)) =
    [(.held, some .truckGone, none)] := by decide +kernel
theorem witness_LinesChangeSecurity : yard.LampsShow ∧ yard.Keyed ∧ yard.lines[0]? = some { chock := false, clear := false } ∧
    yard.findBay 1 = some bay1 := ⟨lamps_yard, keyed_yard, rfl, rfl⟩
theorem witness_ModeChangesByItsChecks : yard.fresh (.modeSetup 1) ∧ setupYard.fresh (.modeRun 1) ∧ setupYard.port.mode = .setup :=
  ⟨fresh_of_none rfl _, fresh_of_none rfl _, rfl⟩
theorem witness_LayoutChecksAndReplaces : setupYard.fresh (.layout 1 (zonesAt 2000)) ∧ setupYard.port.mode = .setup ∧
    (zonesAt 2000).zone ≠ none ∧ (zonesAt 2000).zone.bind zoneSectionFail = none ∧ (zonesAt 1999).zone.bind zoneSectionFail ≠ none ∧
    setupYard.baySectionFail [bayDef] = none ∧ chanSectionFail [⟨0, chanCfg⟩, ⟨1, chanCfg⟩] = none ∧
    craneSectionFail ⟨1, [⟨1, 8000, 10000⟩]⟩ = none ∧ craneSectionFail ⟨1, [⟨1, 8001, 10000⟩]⟩ ≠ none :=
  ⟨fresh_of_none rfl _, by decide +kernel⟩
/-- The store of the yard once more; the row with the pitch of its greatest diameter; a pitch below it; two bad rows. -/
def storeOf (rows : List RowDef) : StoreSection := { rows := rows, saddles := [{ num := 1, x := 5000, y := 2000 }] }
theorem witness_store_section : setupYard.storeSectionFail (storeOf [rowDef]) = none ∧
    setupYard.storeSectionFail (storeOf [{ rowDef with pitch := 1998 }]) ≠ none ∧
    setupYard.storeSectionFail (storeOf [{ rowDef with count := 1, nests := false }]) = none ∧
    setupYard.storeSectionFail (storeOf [{ rowDef with maxWidth := 999 }]) ≠ none ∧
    setupYard.storeSectionFail (storeOf []) ≠ none ∧
    setupYard.storeSectionFail (storeOf [{ rowDef with num := 3, pitch := 0 }, { rowDef with num := 2, count := 0 }]) =
      setupYard.storeSectionFail (storeOf [{ rowDef with num := 2, count := 0 }, { rowDef with num := 3, pitch := 0 }]) := by
  decide +kernel
theorem witness_SettingsReplaceTogether : yard.Within ∧ yard.Keyed ∧ yard.fresh (.settings 1 [⟨.tolerance, 50⟩]) :=
  ⟨within_yard, keyed_yard, fresh_of_none rfl _⟩
theorem test_settings_bounds : status (.settings 1 [⟨.tolerance, 49⟩]) yard = some .outOfRange ∧
    status (.settings 1 [⟨.tolerance, 500⟩]) yard = some .ok ∧ status (.settings 1 [⟨.division (.hoist 1), 25⟩]) yard = some .outOfRange ∧
    status (.settings 1 [⟨.division (.rear 4), 50⟩]) yard = some .ok := by decide +kernel
/-- Log 87: a presence frozen at ARRIVING is EMPTY and frozen after RESTART, with the lamp OFF. -/
theorem test_restart_frozen : (after (.restart 1) (withBay { bayWith .expecting .arriving with frozen := true })).bays.map
    (fun x => (x.presence, x.frozen, x.lamp)) = [(.empty, true, .off)] := by decide +kernel
theorem witness_ResetsLeaveWhatTheyLeave : toSource.fresh (.restart 1) ∧ toSource.Keyed ∧ toSource.Within ∧ toSource.queue 1 ≠ [] :=
  ⟨fresh_of_none rfl _, by constructor <;> decide +kernel, by constructor <;> decide +kernel, by decide +kernel⟩
theorem witness_PredictedLoadsSumAndRise : 0 < truck1.bogieDist ∧ 0 < truck1.wheelbase ∧ truck1.fifthWheel ≤ truck1.wheelbase ∧
    ∀ c ∈ ([⟨8000, 3000⟩] : List Counted), c.dist ≤ truck1.bogieDist := by decide +kernel
/-- A tared bay whose plan passes, and one whose truck alone is too heavy on the bogie. -/
theorem witness_plan_check :
    let tared := fun (r : Int) => { bayWith .ready .present with frontTare := some 7400, rearTare := some r }
    (tared 6300).truck = some truck1 ∧ yard.planCheck (tared 6300) = .passed ∧ yard.planCheck (tared 24000) = .failed 1 .bogie ∧
      yard.planCheck (tared 24001) = .failed 0 .bogie := by decide +kernel

/-- R115, R128: a request that runs on hoist 1, whose channel 0 is due for STUCK, and one that waits there. -/
def dueWeighing : State :=
  { due 0 with weigh := { queue := [hoistRun .read .host, { hoistRun .zero .host with run := none, arrival := 2 }]
                          nextArrival := 3, event := 1, outbox := [] } }
theorem witness_fault_ends_request : (dueWeighing.channel 0).state = .running ∧ (dueWeighing.channel 0).stuckDue = true ∧
    (∃ r ∈ dueWeighing.weigh.queue, r.run.isSome = true ∧ r.point = .hoist 1 ∧ Requester.host ∈ r.requesters) ∧
    ∃ r ∈ dueWeighing.weigh.queue, r.run = none :=
  ⟨by decide +kernel, by decide +kernel, ⟨_, List.mem_cons_self, rfl, rfl, List.mem_singleton.2 rfl⟩,
    _, List.mem_cons_of_mem _ (List.mem_singleton.2 rfl), rfl⟩
theorem test_fault_ends_request : (after (.stuck 0) dueWeighing).weigh.queue = [] ∧
    (after (.stuck 0) dueWeighing).points.head?.bind (fun p => p.slot.map ResultRecord.outcome) = some .fault := by decide +kernel
/-- R159: a platform left UNCONFIGURED takes no TARE at the thaw of the other. -/
def halfBay : State :=
  let s := levels { bayWith .taring .present with frozen := true } .fault .high
  { s with channels := s.channels.set 7 Channel.unconfigured }
theorem test_thaw_of_one : (halfBay.setLevel 1 .front .high).bays.map (fun x => (x.frozen, x.frontRequest.isSome, x.rearRequest.isSome)) =
    [(false, true, false)] := by decide +kernel
theorem witness_thaw_of_one : halfBay.levelOf 1 .front = .fault ∧ halfBay.levelOf 1 .rear = .high ∧
    halfBay.pointRunning (.front 1) = true ∧ halfBay.pointRunning (.rear 1) = false ∧
    halfBay.bays.map (fun x => (x.phase, x.frozen)) = [(.taring, true)] := by decide +kernel
/-- R134, R136, R137: with I = 2 eight ones give one sample, the sum of two outputs of 4. -/
theorem test_precise_path :
    let cfg : ChanSettings := { chanCfg with integ := 2 }
    let p := (List.replicate 8 true).foldl (fun (p : Precise) b => p.push cfg Calib.unwritten (bitValue b))
      { filter := Sinc.start cfg.order, acc := 0, outputs := 0, samples := [] }
    p.samples.map (fun x => (x.raw, x.shifted, x.zeroed, x.weight, x.saturated)) = [(8, 8, 8, 8, false)] := by decide +kernel
theorem witness_precise_path : 1 ≤ chanCfg.order ∧ 1 ≤ chanCfg.decim ∧ 1 ≤ chanCfg.integ := by decide
/-- R148, R149, R185: what a STORED record carries, and its octets; R124: only a SPAN shows a test mass. -/
theorem test_stored : (yard.judgeZero (result 7 0)).2.stored = some (.zeros [7, 0] [1, 1]) ∧
    (yard.judgeSpan (result 0 100)).2.stored = some (.span 65536 [1, 1]) ∧
    writeStored (some (.zeros [7, 0] [1, 1])) = [2, 0, 0, 0, 7, 0, 0, 0, 0, 0, 0, 0, 0, 0, 2, 0, 1, 0, 1] ∧
    writeStored (some (.span 65536 [1, 1])) = [0, 1, 0, 1, 0, 0, 2, 0, 1, 0, 1] ∧
    (hoistRun .read .host).view.mass = none ∧ ({ hoistRun .span .host with mass := 100 }).view.mass = some 100 := by decide +kernel

/-- R168: an entry passes; cradle 3 and cradle 0 of a truck with two are UNKNOWN; a coil or cradle named before is INVALID; a coil
wider than the cradle is UNFIT. -/
theorem test_entries :
    let entry := fun (before : List PlanItem) (e : PlanItem) => yard.entryRefusal truck1.cradles before none e
    entry [] ⟨b1, 1⟩ = none ∧ entry [⟨a1, 1⟩] ⟨b1, 2⟩ = none ∧ entry [] ⟨b1, 3⟩ = some .unknown ∧ entry [] ⟨b1, 0⟩ = some .unknown ∧
      entry [⟨a1, 1⟩] ⟨b1, 1⟩ = some .invalid ∧ entry [⟨b1, 1⟩] ⟨b1, 2⟩ = some .invalid ∧ entry [] ⟨c1, 1⟩ = some .unknown ∧
      yard.entryRefusal [⟨1200, 999⟩] [] none ⟨b1, 1⟩ = some .unfit := by decide +kernel
/-- R168: the ranges of the truck of 9.6, its rising cradles, and their zone. -/
theorem witness_announce_checks : truck1.cradles.Pairwise (fun a b => a.dist < b.dist) ∧
    (∀ d ∈ truck1.cradles, (yard.arbiter.table.bind (fun z => z.zoneAt (bay1.cfg.kingpin + bay1.cfg.dir * d.dist))) = some bay1.cfg.zone) ∧
    yard.entryRefusal truck1.cradles (List.take 0 [⟨b1, 1⟩]) none ⟨b1, 1⟩ = none ∧
    status (.announce 1 1 { truck1 with cradles := truck1.cradles.reverse } [⟨b1, 1⟩]) yard = some .invalid ∧
    status (.announce 1 1 truck1 [⟨b1, 1⟩, ⟨a1, 3⟩]) yard = some .unknown := by decide +kernel
theorem witness_replan_checks : (withBay (bayWith .loading .present)).entryRefusal truck1.cradles [] (some 1) ⟨a1, 2⟩ = none ∧
    (withBay (bayWith .loading .present)).entryRefusal truck1.cradles [] (some 1) ⟨b1, 2⟩ = none ∧
    status (.replan 1 1 [⟨a1, 2⟩, ⟨b1, 2⟩]) (withBay (bayWith .loading .present)) = some .invalid := by decide +kernel

/-- R159: from EXPECTING the arrival places both TAREs; from NONE it places none. -/
theorem test_arrival_tares :
    let comes := fun (ph : Phase) => (after (.arrivalTimer 0) (withBay { bayWith ph .arriving with arrival := some 0 })).weigh.queue.map
      (fun r => (r.point, r.purpose))
    comes .expecting = [(.front 1, .tare), (.rear 1, .tare)] ∧ comes .none = [] ∧ comes .dismissed = [] := by decide +kernel
/-- Bay 1 about to be left, with a PLACE on its front platform; R162: the departure withdraws it. -/
def leavingPlace : State :=
  { leaving with
    bays := leaving.bays.map (fun x => { x with frontRequest := some { purpose := .place, retry := 0 } })
    weigh := { queue := [{ hoistRun .place (.bay 1) with point := .front 1, run := none }], nextArrival := 2, event := 1, outbox := [] } }
theorem witness_departure_withdraws : (∀ r ∈ leavingPlace.weigh.queue, r.requesters.count (.bay 1) ≤ 1) ∧
    (after (.departure 0) leavingPlace).weigh.queue = [] ∧
    (after (.departure 0) leavingPlace).bays.map Bay.frontRequest = [none] := by decide +kernel

/-- R132, R144: RESTART ends a running ZERO as CANCELLED and NOT_STORED; R164: the bay's timers and round. -/
theorem test_restart_requests : (after (.restart 1) (weighing .zero .host)).weigh.queue = [] ∧
    (after (.restart 1) (weighing .zero .host)).points.head?.bind (fun p => p.slot.map (fun r => (r.outcome, r.verdict))) =
      some (.cancelled, some .notStored) ∧
    (after (.restart 1) (weighing .zero .host)).port.flags.getLsbD Notice.weighReady.index = true := by decide +kernel
theorem witness_restart_requests : (weighing .zero .host).fresh (.restart 1) ∧ (weighing .zero .host).Keyed ∧
    (weighing .zero .host).Within ∧ (weighing .zero .host).EnginesLaw ∧
    ∃ r ∈ (weighing .zero .host).weigh.queue, r.run.isSome = true ∧ r.purpose = .zero ∧ r.point.valid = true :=
  ⟨fresh_of_none rfl _, by constructor <;> decide +kernel, by constructor <;> decide +kernel,
    ⟨by decide +kernel, by decide +kernel, by simp [weighing, hoistRun], by decide +kernel, by decide +kernel⟩,
    _, List.mem_singleton.2 rfl, rfl, rfl, by decide +kernel⟩
theorem test_restart_bay : ∀ p ∈ [(Level.low, Level.low), (.high, .low), (.fault, .low)],
    (after (.restart 1) { roundBay with points := (levels bay1 p.1 p.2).points }).bays.map (fun x => (x.presence, x.departure)) =
      [if p.1 = .low then (.departing, some 5000) else (.present, none)] ∧
    (after (.restart 1) { roundBay with points := (levels bay1 p.1 p.2).points }).bays.map (fun x => (x.round.isSome, x.rearRequest)) =
      [(true, some { purpose := .place, retry := 0 })] := by decide +kernel

/-- R171: the coil on cradle 2 counts, and one that hangs on the hook for cradle 1; an excepted coil does not. -/
theorem test_counted : partPlaced.counted partPlaced.bays.head! none = [{ weight := 5000, dist := 3000 }] ∧
    toCradle.counted toCradle.bays.head! none = [{ weight := 5000, dist := 1200 }] ∧
    toCradle.counted toCradle.bays.head! (some a1) = [] := by decide +kernel
theorem witness_counts_at : ∃ c ∈ toCradle.coils, c.id = a1 ∧ toCradle.CountsAt c 1 1 :=
  ⟨_, List.mem_cons_self, rfl, Or.inr ⟨_, _, _, rfl, rfl, rfl, by decide, rfl⟩⟩

/-- R175, R160: a deviation raises BAY_CHANGE also where the limit reason stays. -/
theorem test_deviation_under_limit :
    let s : State := { roundBay with bays := roundBay.bays.map (fun x => { x with hold := some .planLimit }) }
    (s.deliver { requester := .bay 1, result := bayResult .rear .place 301 }).bays.map (fun x => (x.hold, x.round)) =
      [(some .planLimit, none)] ∧
    (s.deliver { requester := .bay 1, result := bayResult .rear .place 301 }).port.flags = (Notice.bayChange 1).bit ∧
    (s.deliver { requester := .bay 1, result := bayResult .rear .place 300 }).port.flags = 0 := by decide +kernel

/-- R77, R87: displaced in TO_SOURCE with its footprint in zone 1 alone, the head leaves zone 2 and gets a CANCEL. -/
theorem test_displace : (toSource.displace (move1 .toSource)).cranes.map Crane.run = [some (1, 1)] ∧
    (toSource.displace (move1 .toSource)).arbiter.table.map (fun t => t.zones.map Zone.owner) = some [some 1, none, none] ∧
    (toSource.displace (move1 .toSource)).arbiter.examine = true ∧
    ((toSource.displace (move1 .toSource)).links.head?.bind Link.sending).map Prod.snd = some (.cancel 1) ∧
    (lostYard.displace (move1 .held)).cranes.map Crane.run = [some (1, 2)] ∧
    (lostYard.displace (move1 .held)).links = lostYard.links := by decide +kernel
theorem witness_displace : (∃ c t, toSource.findCrane 1 = some c ∧ toSource.arbiter.table = some t ∧ c.tracking = .tracking) ∧
    ∃ c t, lostYard.findCrane 1 = some c ∧ lostYard.arbiter.table = some t ∧ c.tracking ≠ .tracking :=
  ⟨⟨_, _, rfl, rfl, rfl⟩, _, _, rfl, rfl, by decide⟩

/-- Bay 1 tared, B1 WAITING on cradle 1. -/
def tared1 : State := withBay { bayWith .ready .present with frontTare := some 7400, rearTare := some 6300 }
/-- R15, R173: of two AMENDs of its weight the one the truck can carry passes the plan check; the other holds PLAN_LIMIT. -/
theorem test_amend_plan_check :
    let amended := fun (w : Nat) => after (.amend 1 b1 ⟨some w, none, none, none, none, none⟩) tared1
    (amended 6000).bays.map (fun x => (x.planCheck, x.hold)) = [(some .passed, none)] ∧ (amended 6000).port.flags = 0 ∧
    (amended 45000).bays.map Bay.hold = [some .planLimit] ∧ (amended 45000).port.flags = (Notice.bayChange 1).bit ∧
    (amended 5000).bays = tared1.bays := by decide +kernel
theorem witness_amend_plan_check : tared1.fresh (.amend 1 b1 ⟨some 6000, none, none, none, none, none⟩) ∧
    ∃ c x a e, tared1.findCoil b1 = some c ∧ tared1.findBay 1 = some x ∧ c.alloc = some a ∧ a.bay = 1 ∧
      nth? x.plan a.index = some e ∧ e.coil = b1 ∧ e.status = .waiting ∧ x.frontTare.isSome = true :=
  ⟨fresh_of_none rfl _, _, _, _, _, rfl, rfl, rfl, rfl, rfl, rfl, rfl, rfl⟩

/-- R155, R159: an ANNOUNCE for a truck that stands there places both TAREs, one for a truck still to come none. -/
theorem test_announce_tares :
    let placed := fun (x : Bay) => (after (.announce 1 1 truck1 [⟨b1, 1⟩]) { yard with bays := [x] }).weigh.queue.map
      (fun r => (r.point, r.purpose, r.retry))
    placed { bay1 with presence := .present, phase := .unannounced, lamp := .stop } =
      [(.front 1, .tare, 0), (.rear 1, .tare, 0)] ∧ placed bay1 = [] := by decide +kernel

/-- Bay 1 about to be left, with move 1 of A1 on its cradle 2 in a state, the target in the store. -/
def leavingFrom (st : MoveState) : State :=
  { moving { move1 st with source := some (.place (.cradle 1 2)) } (.place (.cradle 1 2)) .opened .free .free with
    bays := [{ bayWith .dismissed .departing with departure := some 0, lamp := .depart }] }
/-- R59, R109: a GRIPPED move, to or from the truck, adds STRAY_GRIP; one ended in TO_SOURCE gets a CANCEL, one held none. -/
theorem test_departure_of_moves :
    let grips := fun (s : State) => (after (.departure 0) s).cranes.map (fun c => c.raise.strayGrip)
    let cancels := fun (s : State) => (after (.departure 0) s).links.head?.map
      (fun l => (l.sending.map Prod.snd).toList.contains (.cancel 1) || l.waiting.contains (.cancel 1))
    let held : State := { leaving with moves := { leaving.moves with recs := leaving.moves.recs.map (fun m => { m with state := .gripped }) } }
    grips (leavingFrom .gripped) = [true] ∧ grips (leavingFrom .toSource) = [false] ∧ grips held = [true] ∧ grips leaving = [false] ∧
      cancels (leavingFrom .toSource) = some true ∧ cancels (leavingFrom .gripped) = some false ∧ cancels leaving = some false := by
  decide +kernel
theorem witness_departure_of_moves : (leavingFrom .toSource).Keyed ∧ (leavingFrom .toSource).Within ∧
    (∃ x, (leavingFrom .toSource).findBay 1 = some x ∧ x.departure.isSome = true ∧ x.presence = .departing) ∧
    ∃ m ∈ (leavingFrom .toSource).moves.recs, m.state = .toSource ∧ (leavingFrom .toSource).onHook m = false :=
  ⟨by constructor <;> decide +kernel, by constructor <;> decide +kernel, ⟨_, rfl, rfl, rfl⟩, _, List.mem_singleton.2 rfl, rfl,
    by decide +kernel⟩
/-- R185: an absent sample keeps its octets, as 0; R17: the count of retired coils is a count of records; R40: a zone state is its
code. -/
theorem test_octets : writeSample { result 0 0 with sample := none } = 0 :: List.replicate 21 0 ∧
    (writeSample (result 0 0)).length = 22 ∧
    writeDepartures [none, some { retired := 3, unauthorised := true }] = [0, 0, 0, 0, 1, 0, 3, 1] ∧
    writeData (.row [] rowDef none) = 0 :: (writeRow rowDef ++ [0]) ∧
    writeData (.row [] rowDef (some .shut)) = 0 :: (writeRow rowDef ++ [3]) := by decide +kernel

/-! What the widened statements add. -/

/-- Move 1 in ZONES with its coil on the hook, its crane at a position. -/
def lifted (load : Load) (at_ : Pos) : State :=
  let s := moving (move1 .zones) (.hook 1) .closed load (.vacated 1)
  { s with cranes := [{ crane1 with tongs := .closed, load := load, lastPos := some at_ }] }
theorem witness_grant_with_coil : ∃ t c m l, (lifted .loaded (5000, 2000)).arbiter.table = some t ∧
    (lifted .loaded (5000, 2000)).findCrane entry1.crane = some c ∧ (lifted .loaded (5000, 2000)).findMove entry1.move = some m ∧
    m.crane = entry1.crane ∧ nth? (lifted .loaded (5000, 2000)).links entry1.crane = some l ∧
    (lifted .loaded (5000, 2000)).onHook m = true ∧ c.load ≠ .resting :=
  ⟨_, _, _, _, rfl, rfl, rfl, rfl, rfl, by decide +kernel, by decide +kernel⟩
/-- R93, R101: WEIGHING with the lift X and a CHECK, the narrowed WINDOW before the ORDER; PLACED within 150 mm of the target is not
off it. -/
theorem test_grant_with_coil :
    let g := (lifted .loaded (5000, 2000)).grant entry1 (1, 2)
    let off := fun (p : Pos) => ((lifted .resting p).grant entry1 (1, 2)).moves.recs.map (fun m => (m.state, m.offTarget))
    g.moves.recs.map (fun m => (m.state, m.liftX)) = [(.weighing, some 5000)] ∧
    g.weigh.queue.map (fun r => (r.point, r.purpose, r.requesters)) = [(.hoist 1, .check, [.move 1])] ∧
    (g.links.head?.map Link.sending) = some (some (0, .window (some (4850, 5150)))) ∧
    (g.links.head?.map (fun l => l.waiting.length)) = some 1 ∧
    off (12150, 3150) = [(.placed, false)] ∧ off (12151, 3150) = [(.placed, true)] := by decide +kernel
/-- R70: the zones of the footprints at X 5,000 and X 12,000; with a hook as source, at X 15,000 and 12,000; none with no X. -/
theorem test_run_of_request : toSource.runFor table1 crane1 (move1 .toSource) = some (1, 2) ∧
    toSource.runFor table1 { crane1 with lastPos := some (15000, 0) } { move1 .zones with source := some (.hook 1) } = some (2, 2) ∧
    toSource.runFor table1 { crane1 with lastPos := none } { move1 .zones with source := none, target := none } = none := by
  decide +kernel
/-- Move 1 HELD with its coil resting, its source cradle 2 of bay 1 at X 24,000 and Y 5,000, the rear tare given. -/
def overCradle (rear : Int) : State :=
  { moving { move1 .held with source := some (.place (.cradle 1 2)), hold := some .mismatch, gripTaken := true } (.hook 1) .closed
      .resting (.occupied c1) with
    bays := [{ bayWith .loading .present with
      frontTare := some 7400, rearTare := some rear, cradles := [place .free, place (.vacated 1)]
      plan := [{ coil := a1, cradle := 2, status := .waiting }] }] }
theorem witness_set_back : ∃ x, (overCradle 6300).findBay 1 = some x := ⟨_, rfl⟩
/-- R98, R167, R172, R174: set back within 150 mm, the entry is PLACED, the bay LOADED, a round starts, and a prediction over a limit
holds PLAN_LIMIT; beyond 150 mm the coil is ASTRAY. -/
theorem test_set_back :
    let back := fun (rear x : Int) => after (.opened 0 1 x 5000) (overCradle rear)
    (back 6300 24150).moves.recs.map Move.outcome = [some .returned] ∧ (back 6300 24151).moves.recs.map Move.outcome = [some .astray] ∧
    (back 6300 24150).bays.map (fun x => (x.plan.map PlanEntry.status, x.phase, x.hold, x.round.isSome)) =
      [([.placed], .loaded, none, true)] ∧
    (back 24000 24150).bays.map (fun x => (x.hold, x.round.isSome)) = [(some .planLimit, true)] := by decide +kernel
/-- R86: the hook of a head is empty in TO_SOURCE, and not once it has gripped. -/
theorem witness_head_hook : (∃ h k, toSource.head 1 = some h ∧ toSource.findCrane 1 = some k) ∧ toSource.headHookEmpty 1 = true ∧
    gripping.headHookEmpty 1 = false := ⟨⟨_, _, rfl, rfl⟩, by decide +kernel, by decide +kernel⟩
theorem test_no_target : toSource.judgeTarget { move1 .held with target := none } = .unfit := by decide +kernel
/-- Move 1 from cradle 2 to cradle 1 of bay 1, as RETARGET leaves it. -/
def cradleToCradle : State :=
  { toCradle with bays := toCradle.bays.map (fun x => { x with cradles := [place (.incoming 1 a1), place (.vacated 1)] }) }
def cradleMove : Move := { move1 .placed with source := some (.place (.cradle 1 2)), target := some (.place (.cradle 1 1)) }
theorem witness_cradle_to_cradle : ∃ x c e, cradleMove.coil = some a1 ∧ cradleMove.target = some (.place (.cradle 1 1)) ∧
    cradleMove.source ≠ some (.place (.cradle 1 1)) ∧ cradleToCradle.findBay 1 = some x ∧ nth? x.cradles 1 = some c ∧
    c.state = .incoming cradleMove.id a1 ∧ x.plan.filter (fun k => k.coil == a1 && k.cradle == 1) = [e] ∧
    e.status = .moving cradleMove.id := ⟨_, _, _, rfl, rfl, by decide, rfl, rfl, rfl, rfl, rfl⟩
/-- R35, R166: DONE fills the target and frees the source; RETURNED the other way about. -/
theorem test_cradle_to_cradle :
    let ends := fun (o : MoveOutcome) => (cradleToCradle.settlePlaces cradleMove o).bays.map (fun x => x.cradles.map Place.state)
    ends .done = [[.occupied a1, .free]] ∧ ends .returned = [[.free, .occupied a1]] := by decide +kernel
/-- R117: the clamped sum of both channels of a hoist; none where a channel does not run. -/
theorem test_fast_sum : (weighed 60000).fastSum (.hoist 1) = some 60000 ∧ (weighed 250001).fastSum (.hoist 1) = some 250000 ∧
    (weighed 0).fastSum (.hoist 2) = none ∧ yard.fastSum (.front 1) = none := by decide +kernel
/-- A running CHECK of hoist 2 and a READ that waits. -/
def mixedQueue : State :=
  { yard with
    weigh := { queue := [{ hoistRun .check (.move 2) with point := .hoist 2 }, { hoistRun .read .host with run := none, arrival := 2 }]
               nextArrival := 3, event := 1, outbox := [] } }
theorem witness_check_joins : mixedQueue.weigh.nextArrival ≤ 65535 ∧
    mixedQueue.weigh.queue = [{ hoistRun .check (.move 2) with point := .hoist 2 }] ++
      [{ hoistRun .read .host with run := none, arrival := 2 }] ∧ (∀ r ∈ mixedQueue.weigh.queue, r.arrival < 3) ∧
    mixedQueue.weigh.queue.Pairwise (fun a b => (b.purpose = .check → a.purpose = .check) ∧
      ((a.purpose = .check ↔ b.purpose = .check) → a.arrival < b.arrival)) := by decide +kernel
/-- R124: a CHECK stands behind the CHECK and before the READ. -/
theorem test_check_joins : (mixedQueue.placeRequest (.hoist 1) .check (.move 1) 0 0).weigh.queue.map WeighRequest.arrival = [1, 3, 2] ∧
    (mixedQueue.placeRequest (.hoist 1) .tare (.bay 1) 0 0).weigh.queue.map WeighRequest.arrival = [1, 2, 3] := by decide +kernel
/-- R133: order 2 and decimation 2 over the bits 1, 1, 1, 0: the first sums are 1, 2, 2, 0 and the fourth second sum is 2. -/
theorem test_sinc : (((Sinc.start 2).push 2 2 1).1.push 2 2 1).2 = none ∧
    (((((Sinc.start 2).push 2 2 1).1.push 2 2 1).1.push 2 2 1).1.push 2 2 (-1)).2 = some 2 ∧
    (((((Sinc.start 2).push 2 2 1).1.push 2 2 1).1.push 2 2 1).1.push 2 2 1).2 = some 4 := by decide +kernel
/-- Bay 1 in a placement round, its front PLACE in the weigh queue. -/
def inRound : State :=
  { withBay { bayWith .loading .present with round := some round0, frontRequest := some { purpose := .place, retry := 0 } } with
    weigh := { queue := [{ hoistRun .place (.bay 1) with point := .front 1, run := none }], nextArrival := 2, event := 1, outbox := [] } }
theorem witness_dismiss_in_round : inRound.fresh (.dismiss 1 1) ∧ (∃ x, inRound.findBay 1 = some x ∧ x.round.isSome = true) ∧
    ∀ r ∈ inRound.weigh.queue, r.requesters.count (.bay 1) ≤ 1 := ⟨fresh_of_none rfl _, ⟨_, rfl, rfl⟩, by decide +kernel⟩
/-- R129, R174: DISMISS withdraws the PLACE of a round in progress. -/
theorem test_dismiss_in_round : (after (.dismiss 1 1) inRound).weigh.queue = [] ∧
    (after (.dismiss 1 1) inRound).bays.map (fun x => (x.round, x.frontRequest)) = [(none, none)] := by decide +kernel

/-! Laws. -/

theorem witness_StepKeepsTablesAndLamps : (∃ t, step yard = .next t) ∧ yard.Within ∧ yard.Keyed ∧ yard.RowsRise ∧ yard.LampsShow :=
  ⟨⟨_, rfl⟩, within_yard, keyed_yard, by unfold State.RowsRise; decide +kernel, lamps_yard⟩
theorem witness_StepKeepsRunwayLaw : yard.Keyed ∧ yard.RunwayLaw ∧ ∃ t, step yard = .next t := ⟨keyed_yard, runway_yard, _, rfl⟩
theorem witness_StepKeepsEnginesLaw : (weighing .read .host).EnginesLaw ∧ ∃ t, step (weighing .read .host) = .next t :=
  ⟨engines_weighing, _, rfl⟩
theorem settled_yard : yard.Settled := by constructor <;> decide +kernel
/-- The yard with a result on its way and an examination due, which the end of the event hands on and makes. -/
def unsettled : State :=
  { yard with
    weigh := { yard.weigh with outbox := [{ requester := .host, result := result 0 0 }] }
    arbiter := { yard.arbiter with examine := true } }
theorem witness_StepKeepsTravelLaw : yard.Keyed ∧ yard.TravelLaw ∧ yard.Settled ∧ (∃ t, step yard = .next t) ∧
    unsettled.Keyed ∧ unsettled.cranes.length ≤ 3 ∧ unsettled.arbiter.requests.Pairwise (fun a b => a.crane ≠ b.crane) :=
  ⟨keyed_yard, travel_yard, settled_yard, ⟨_, rfl⟩, by constructor <;> decide +kernel, by decide +kernel, by decide +kernel⟩
theorem test_settle : unsettled.settle.weigh.outbox = [] ∧ unsettled.settle.arbiter.examine = false ∧
    unsettled.settle.points.head?.map (fun p => p.unread) = some true := by decide +kernel
theorem witness_StepKeepsQueueLaw : toSource.Within ∧ toSource.Keyed ∧ toSource.QueueLaw ∧ ∃ t, step toSource = .next t :=
  ⟨by constructor <;> decide +kernel, by constructor <;> decide +kernel, queue_toSource, _, rfl⟩
theorem witness_FramesSpellTheirCommands : (Instr.query 9 a1).wellFormed = true ∧ (∃ f, requestFrame (.query 9 a1) = some f ∧
      f.body.length ≤ 1024) ∧ (Instr.opened 0 255 (-1) 5).wellFormed = true ∧ ∃ f, eventFrame 255 (.opened 0 255 (-1) 5) = some f :=
  ⟨by decide +kernel, ⟨_, rfl, by decide +kernel⟩, by decide +kernel, _, rfl⟩

end Sys2Proof.Tests
end

section
/-! PROOF. Taking a fresh request: its frame is taken and its owner's answer goes on the line (R178). A refusal in that form is
`Refused`, and the readings of the coil table and of the saddles do not see that the frame was taken. -/

namespace Sys2Proof.Machine

/-- A fresh request reaches its owner in the state with its frame taken, and the owner's answer is framed (R178). -/
theorem State.serve_taking {s : State} {i : Instr} (hf : s.fresh i) (act : State → State × Answer) :
    s.serve i act = .next ((act s.taking).1.respond i (act s.taking).2) :=
  State.serve_of_fresh s i act hf

/-- A fresh request that only reads is answered in the state with its frame taken (R178). -/
theorem State.reply_taking {s : State} {i : Instr} (hf : s.fresh i) (answer : State → Answer) :
    s.reply i answer = .next (s.taking.respond i (answer s.taking)) :=
  State.serve_taking hf _

/-- A refusal by its status alone is a refusal. -/
theorem Refused.of_refuse {i : Instr} {s : State} {st : Status}
    (h : exec i s = .next (s.taking.respond i (Answer.refuse st))) : Refused i s st := ⟨none, h⟩

/-- A refusal that names an item is a refusal. -/
theorem Refused.of_refuseItem {i : Instr} {s : State} {st : Status} {item : Item}
    (h : exec i s = .next (s.taking.respond i (Answer.refuseItem st item))) : Refused i s st := ⟨some item, h⟩

@[simp] theorem State.taking_coils (s : State) : s.taking.coils = s.coils := rfl
@[simp] theorem State.taking_findCoil (s : State) (id : Ident) : s.taking.findCoil id = s.findCoil id := rfl
@[simp] theorem State.taking_coilRefusal (s : State) (id : Ident) : s.taking.coilRefusal id = s.coilRefusal id := rfl
@[simp] theorem State.taking_coilAnswer (s : State) (id : Ident) : s.taking.coilAnswer id = s.coilAnswer id := rfl
@[simp] theorem State.taking_enterRefusal (s : State) (id : Ident) (n w d b c : Nat) :
    s.taking.enterRefusal id n w d b c = s.enterRefusal id n w d b c := rfl

/-! ### What a request names -/

@[simp] theorem inRange_iff (lo hi v : Nat) : inRange lo hi v = true ↔ lo ≤ v ∧ v ≤ hi := by simp [inRange]

/-- No descriptive field is out of range exactly where all four are within the ranges of R4. -/
theorem fieldOutOfRange_eq_none_iff (w d b c : Nat) :
    fieldOutOfRange w d b c = none ↔
      (500 ≤ w ∧ w ≤ 45000) ∧ (600 ≤ d ∧ d ≤ 2400) ∧ (500 ≤ b ∧ b ≤ 2200) ∧ (1 ≤ c ∧ c ≤ 8) := by
  simp only [← inRange_iff]
  unfold fieldOutOfRange
  split_ifs <;> simp_all

/-- An ill-formed identifier is refused. -/
theorem State.coilRefusal_badIdent (s : State) {id : Ident} (hid : identOk id = false) : s.coilRefusal id = some .badIdent := by
  simp [State.coilRefusal, hid]

/-- An identifier that is not in the table is refused. -/
theorem State.coilRefusal_unknown {s : State} {id : Ident} (hid : identOk id = true) (hc : s.findCoil id = none) :
    s.coilRefusal id = some .unknown := by
  simp [State.coilRefusal, hid, hc]

/-- The identifier of a record in the table is not refused. -/
theorem State.coilRefusal_of_some {s : State} {id : Ident} {c : Coil} (hid : identOk id = true) (hc : s.findCoil id = some c) :
    s.coilRefusal id = none := by
  simp [State.coilRefusal, hid, hc]

/-- A record in the table is answered by its view (R13). -/
theorem State.coilAnswer_of_some {s : State} {id : Ident} {c : Coil} (hc : s.findCoil id = some c) :
    s.coilAnswer id = Answer.ok (.coil (s.coilView c)) := by
  simp [State.coilAnswer, hc]

/-! ### Places and new records -/

/-- The table is full with 2,048 records (R2). -/
@[simp] theorem State.coilTableFull_iff (s : State) : s.coilTableFull = true ↔ 2048 ≤ s.coils.length := decide_eq_true_iff

@[simp] theorem State.updPlace_coils (s : State) (p : PlaceRef) (f : Place → Place) : (s.updPlace p f).coils = s.coils := by
  cases p <;> rfl
@[simp] theorem State.setPlace_coils (s : State) (p : PlaceRef) (st : PlaceState) : (s.setPlace p st).coils = s.coils :=
  s.updPlace_coils p _
@[simp] theorem State.addCoil_coils (s : State) (c : Coil) (p : PlaceRef) : (s.addCoil c p).coils = s.coils ++ [c] :=
  State.setPlace_coils _ p _

/-- A new record is found under an identifier that named none. -/
theorem State.findCoil_addCoil {s : State} {c : Coil} (p : PlaceRef) (h : s.findCoil c.id = none) :
    (s.addCoil c p).findCoil c.id = some c := by
  unfold State.findCoil at h ⊢
  simp [h]

/-- The answer that returns a new record: it is not measured, so its reference weight is the recorded one (R8, R12, R42). -/
theorem State.coilAnswer_addCoil {s : State} {c : Coil} (p : PlaceRef) (h : s.findCoil c.id = none) (hm : c.measured = none) :
    (s.addCoil c p).coilAnswer c.id =
      Answer.ok (.coil { coil := c, reference := c.recorded, present := none, count := s.coils.length + 1 }) := by
  rw [State.coilAnswer_of_some (State.findCoil_addCoil p h)]
  simp [State.coilView, Coil.reference, hm]

/-- A defined saddle is closed to a new coil exactly where it is not FREE or is blocked. -/
theorem State.placeOpen_entry_eq_false_iff {s : State} {n : Nat} {x : Saddle} (hx : s.findSaddle n = some x) :
    s.placeOpen (.entry n) = false ↔ x.place.state ≠ .free ∨ x.place.blocked = true := by
  simp [State.placeOpen, State.findPlace, hx, or_iff_not_imp_left]

end Sys2Proof.Machine
end

section
/-! PROOF. ENTER, QUERY and RETIRE (chapter 1): what each does where its checks refuse and where they pass, its checks one by one,
and the statements O6 to O8. -/

namespace Sys2Proof.Machine

/-! ### ENTER (R12) -/

theorem exec_enter (s : State) (q : Nat) (id : Ident) (n w d b c : Nat) (be ho : Option Bool) :
    exec (.enter q id n w d b c be ho) s = execEnter q id n w d b c be ho s := rfl

section
variable {s : State} {q : Nat} {id : Ident} {n w d b c : Nat} {be ho : Option Bool}

/-- An ENTER that its checks refuse changes nothing. -/
theorem exec_enter_refused {a : Answer} (hf : s.fresh (.enter q id n w d b c be ho))
    (h : s.enterRefusal id n w d b c = some a) :
    exec (.enter q id n w d b c be ho) s = .next (s.taking.respond (.enter q id n w d b c be ho) a) := by
  rw [exec_enter, execEnter, State.serve_taking hf]
  simp [h]

/-- An ENTER whose checks pass adds the record at its saddle and returns it. -/
theorem enter_answers (hf : s.fresh (.enter q id n w d b c be ho)) (h : s.enterRefusal id n w d b c = none)
    (hc : s.findCoil id = none) :
    Answers (.enter q id n w d b c be ho) s
      (s.taking.addCoil (newCoil id w d b c be ho (.place (.entry n))) (.entry n))
      (.coil { coil := newCoil id w d b c be ho (.place (.entry n)), reference := w, present := none,
               count := s.coils.length + 1 }) := by
  have answer := State.coilAnswer_addCoil (s := s.taking) (c := newCoil id w d b c be ho (.place (.entry n))) (.entry n) hc rfl
  rw [Answers, exec_enter, execEnter, State.serve_taking hf]
  simp only [State.taking_enterRefusal, h]
  exact congrArg (fun a => Host.Outcome.next (State.respond _ _ a)) answer

end

/-- The first check of ENTER: the identifier's form. -/
theorem State.enterRefusal_badIdent (s : State) {id : Ident} (n w d b c : Nat) (hid : identOk id = false) :
    s.enterRefusal id n w d b c = some (Answer.refuse .badIdent) := by
  simp [State.enterRefusal, hid]

/-- The second check of ENTER: the ranges of the descriptive fields, then that of the saddle's number. -/
theorem State.enterRefusal_outOfRange (s : State) {id : Ident} {n w d b c : Nat} (hid : identOk id = true)
    (hr : ¬ (fieldOutOfRange w d b c = none ∧ inRange 1 4 n = true)) :
    ∃ f, s.enterRefusal id n w d b c = some (Answer.refuseItem .outOfRange (.field f)) := by
  unfold State.enterRefusal
  cases hw : fieldOutOfRange w d b c with
  | some f => exact ⟨f, by simp [hid]⟩
  | none =>
    have hn : inRange 1 4 n = false := by simpa [hw, inRange] using hr
    exact ⟨.saddle, by simp [hid, hn]⟩

section
variable {s : State} {id : Ident} {n w d b c : Nat} {x : Saddle} (hid : identOk id = true) (hw : fieldOutOfRange w d b c = none)
  (hn : inRange 1 4 n = true)
include hid hw hn

/-- The third check of ENTER: the saddle is defined. -/
theorem State.enterRefusal_unknown (hx : s.findSaddle n = none) :
    s.enterRefusal id n w d b c = some (Answer.refuse .unknown) := by
  simp [State.enterRefusal, hid, hw, hn, hx]

/-- The last three checks of ENTER, at a defined saddle: the identifier is new, the saddle is FREE and not blocked, and the table
has room. -/
theorem State.enterRefusal_saddle (hx : s.findSaddle n = some x) :
    s.enterRefusal id n w d b c =
      if (s.findCoil id).isSome = true then some (Answer.refuse .duplicate)
      else if x.place.state ≠ .free ∨ x.place.blocked = true then some (Answer.refuse .placeBusy)
      else if 2048 ≤ s.coils.length then some (Answer.refuse .tableFull)
      else none := by
  simp [State.enterRefusal, hid, hw, hn, hx, State.placeOpen_entry_eq_false_iff hx, State.coilExists]

end

/-! ### QUERY (R13) -/

theorem exec_query (s : State) (q : Nat) (id : Ident) : exec (.query q id) s = execQuery q id s := rfl

/-- A QUERY whose identifier is refused changes nothing. -/
theorem query_refused {s : State} {q : Nat} {id : Ident} {st : Status} (hf : s.fresh (.query q id))
    (h : s.coilRefusal id = some st) : Refused (.query q id) s st := by
  refine .of_refuse ?_
  rw [exec_query, execQuery, State.reply_taking hf]
  simp [h]

/-- A QUERY of a record in the table answers with its view and changes nothing. -/
theorem query_answers {s : State} {q : Nat} {id : Ident} {c : Coil} (hf : s.fresh (.query q id)) (hid : identOk id = true)
    (hc : s.findCoil id = some c) : Answers (.query q id) s s.taking (.coil (s.coilView c)) := by
  rw [Answers, exec_query, execQuery, State.reply_taking hf]
  simp [State.coilRefusal_of_some hid hc, State.coilAnswer_of_some hc]

/-! ### RETIRE (R16) -/

/-- A coil of a live move is not retired. -/
theorem Coil.retireRefusal_busy {c : Coil} (hm : c.move.isSome = true) : c.retireRefusal = some .busy := by
  simp [Coil.retireRefusal, hm]

section
variable {c : Coil} (hm : ¬ c.move.isSome = true)
include hm

/-- An allocated coil is not retired. -/
theorem Coil.retireRefusal_allocated (ha : c.alloc.isSome = true) : c.retireRefusal = some .allocated := by
  simp [Coil.retireRefusal, hm, ha]

variable (ha : ¬ c.alloc.isSome = true)
include ha

/-- A free coil on an entry saddle may be retired. -/
theorem Coil.retireRefusal_entry {n : Nat} (hl : c.loc = .place (.entry n)) : c.retireRefusal = none := by
  simp [Coil.retireRefusal, hm, ha, hl]

/-- A free coil that is astray may be retired. -/
theorem Coil.retireRefusal_astray {x y : Int} (hl : c.loc = .astray x y) : c.retireRefusal = none := by
  simp [Coil.retireRefusal, hm, ha, hl]

/-- A free coil anywhere else is in the wrong place to be retired. -/
theorem Coil.retireRefusal_wrongPlace (he : ∀ n, c.loc ≠ .place (.entry n)) (hs : ∀ x y, c.loc ≠ .astray x y) :
    c.retireRefusal = some .wrongPlace := by
  rw [Coil.retireRefusal, if_neg hm, if_neg ha]
  split
  · next hl => exact absurd hl (he _)
  · next hl => exact absurd hl (hs _ _)
  · rfl

end

theorem exec_retire (s : State) (q : Nat) (id : Ident) : exec (.retire q id) s = execRetire q id s := rfl

section
variable {s : State} {q : Nat} {id : Ident} (hf : s.fresh (.retire q id))
include hf

/-- A RETIRE with an ill-formed identifier is refused. -/
theorem retire_badIdent (hid : identOk id = false) : Refused (.retire q id) s .badIdent := by
  refine .of_refuse ?_
  rw [exec_retire, execRetire, State.serve_taking hf]
  simp [hid]

/-- A RETIRE of a coil that is not in the table is refused. -/
theorem retire_unknown (hid : identOk id = true) (hc : s.findCoil id = none) : Refused (.retire q id) s .unknown := by
  refine .of_refuse ?_
  rw [exec_retire, execRetire, State.serve_taking hf]
  simp [hid, hc, orUnknown]

variable {c : Coil} (hid : identOk id = true) (hc : s.findCoil id = some c)
include hid hc

/-- A RETIRE that the checks of its record refuse changes nothing. -/
theorem retire_refused {st : Status} (h : c.retireRefusal = some st) : Refused (.retire q id) s st := by
  refine .of_refuse ?_
  rw [exec_retire, execRetire, State.serve_taking hf]
  simp [hid, hc, orUnknown, h, refusedBy]

/-- A RETIRE of a coil that is astray removes its record. -/
theorem retire_astray {x y : Int} (h : c.retireRefusal = none) (hl : c.loc = .astray x y) :
    Answers (.retire q id) s (s.taking.removeCoil id) (.count (s.removeCoil id).coils.length) := by
  rw [Answers, exec_retire, execRetire, State.serve_taking hf]
  simp [hid, hc, orUnknown, h, refusedBy, hl, State.removeCoil]

/-- A RETIRE of a coil at a place removes its record and frees the place. -/
theorem retire_place {p : PlaceRef} (h : c.retireRefusal = none) (hl : c.loc = .place p) :
    Answers (.retire q id) s ((s.taking.removeCoil id).setPlace p .free) (.count (s.removeCoil id).coils.length) := by
  rw [Answers, exec_retire, execRetire, State.serve_taking hf]
  simp [hid, hc, orUnknown, h, refusedBy, hl, State.removeCoil]

end

end Sys2Proof.Machine

namespace Sys2Proof.Proofs

open Sys2Proof Sys2Proof.Machine

/-- Settles O6: the checks of R12 one by one; where all pass, the record is the last of the table and is found there. -/
theorem enterCreatesOrRefuses : Obligations.EnterCreatesOrRefuses := by
  intro s q id saddle w d b c be ho i hf
  have ranges : (500 ≤ w ∧ w ≤ 45000 ∧ 600 ≤ d ∧ d ≤ 2400 ∧ 500 ≤ b ∧ b ≤ 2200 ∧ 1 ≤ c ∧ c ≤ 8 ∧ 1 ≤ saddle ∧ saddle ≤ 4) ↔
      fieldOutOfRange w d b c = none ∧ inRange 1 4 saddle = true := by
    simp only [fieldOutOfRange_eq_none_iff, inRange_iff, and_assoc]
  by_cases hid : identOk id = false
  · rw [if_pos hid]
    exact .of_refuse (exec_enter_refused hf (s.enterRefusal_badIdent _ _ _ _ _ hid))
  rw [if_neg hid]
  rw [Bool.not_eq_false] at hid
  by_cases hr : fieldOutOfRange w d b c = none ∧ inRange 1 4 saddle = true
  · rw [if_neg (not_not.mpr (ranges.mpr hr))]
    obtain ⟨hw, hn⟩ := hr
    cases hx : s.findSaddle saddle with
    | none => exact .of_refuse (exec_enter_refused hf (State.enterRefusal_unknown hid hw hn hx))
    | some x =>
      have checks := State.enterRefusal_saddle hid hw hn hx
      dsimp only
      split_ifs at checks ⊢ with hdup
      · exact .of_refuse (exec_enter_refused hf checks)
      · exact .of_refuse (exec_enter_refused hf checks)
      · exact .of_refuse (exec_enter_refused hf checks)
      · exact enter_answers hf checks (by simpa using hdup)
  · rw [if_pos (mt ranges.mp hr)]
    obtain ⟨f, h⟩ := s.enterRefusal_outOfRange hid hr
    exact .of_refuseItem (exec_enter_refused hf h)

/-- Settles O7: QUERY answers by the refusal of its identifier or by the view of the record found. -/
theorem queryReturnsTheRecord : Obligations.QueryReturnsTheRecord := by
  intro s q id hf
  by_cases hid : identOk id = false
  · rw [if_pos hid]
    exact query_refused hf (s.coilRefusal_badIdent hid)
  rw [if_neg hid]
  rw [Bool.not_eq_false] at hid
  cases hc : s.findCoil id with
  | none => exact query_refused hf (State.coilRefusal_unknown hid hc)
  | some c => exact query_answers hf hid hc

/-- Settles O8: the checks of R16 one by one, the last of them by the location of the coil. -/
theorem retireRemovesOrRefuses : Obligations.RetireRemovesOrRefuses := by
  intro s q id hf i left
  by_cases hid : identOk id = false
  · rw [if_pos hid]
    exact retire_badIdent hf hid
  rw [if_neg hid]
  rw [Bool.not_eq_false] at hid
  cases hc : s.findCoil id with
  | none => exact retire_unknown hf hid hc
  | some c =>
    dsimp only
    by_cases hm : c.move.isSome = true
    · rw [if_pos hm]
      exact retire_refused hf hid hc (Coil.retireRefusal_busy hm)
    rw [if_neg hm]
    by_cases ha : c.alloc.isSome = true
    · rw [if_pos ha]
      exact retire_refused hf hid hc (Coil.retireRefusal_allocated hm ha)
    rw [if_neg ha]
    cases hl : c.loc with
    | astray x y => exact retire_astray hf hid hc (Coil.retireRefusal_astray hm ha hl) hl
    | hook n => exact retire_refused hf hid hc (Coil.retireRefusal_wrongPlace hm ha (by simp [hl]) (by simp [hl]))
    | place p =>
      cases p with
      | entry n => exact retire_place hf hid hc (Coil.retireRefusal_entry hm ha hl) hl
      | floor | nest | cradle =>
        exact retire_refused hf hid hc (Coil.retireRefusal_wrongPlace hm ha (by simp [hl]) (by simp [hl]))

end Sys2Proof.Proofs
end

section
/-! PROOF. PLACE (chapter 2): what it does where its checks refuse and where they pass, its checks one by one, and the statement
O10. -/

namespace Sys2Proof.Machine

@[simp] theorem State.taking_placeRefusal (s : State) (id : Ident) (pos : StorePos) (c : Coil) :
    s.taking.placeRefusal id pos c = s.placeRefusal id pos c := rfl

/-- A defined place is closed to a new coil exactly where it is not FREE or is blocked. -/
theorem State.placeOpen_eq_false_iff {s : State} {p : PlaceRef} {x : Place} (hx : s.findPlace p = some x) :
    s.placeOpen p = false ↔ x.state ≠ .free ∨ x.blocked = true := by
  simp [State.placeOpen, hx, or_iff_not_imp_left]

/-! ### What PLACE does -/

theorem exec_place (s : State) (q : Nat) (id : Ident) (pos : StorePos) (w d b c : Nat) (be ho : Option Bool) :
    exec (.place q id pos w d b c be ho) s = execPlace q id pos w d b c be ho s := rfl

section
variable {s : State} {q : Nat} {id : Ident} {pos : StorePos} {w d b c : Nat} {be ho : Option Bool}

/-- A PLACE that its checks refuse changes nothing. -/
theorem exec_place_refused {a : Answer} (hf : s.fresh (.place q id pos w d b c be ho))
    (h : s.placeRefusal id pos (newCoil id w d b c be ho (.place pos.ref)) = some a) :
    exec (.place q id pos w d b c be ho) s = .next (s.taking.respond (.place q id pos w d b c be ho) a) := by
  rw [exec_place, execPlace, State.serve_taking hf]
  simp [h]

/-- A PLACE whose checks pass adds the record at its place and returns it. -/
theorem place_answers (hf : s.fresh (.place q id pos w d b c be ho))
    (h : s.placeRefusal id pos (newCoil id w d b c be ho (.place pos.ref)) = none) (hc : s.findCoil id = none) :
    Answers (.place q id pos w d b c be ho) s
      (s.taking.addCoil (newCoil id w d b c be ho (.place pos.ref)) pos.ref)
      (.coil { coil := newCoil id w d b c be ho (.place pos.ref), reference := w, present := none,
               count := s.coils.length + 1 }) := by
  have answer := State.coilAnswer_addCoil (s := s.taking) (c := newCoil id w d b c be ho (.place pos.ref)) pos.ref hc rfl
  rw [Answers, exec_place, execPlace, State.serve_taking hf]
  simp only [State.taking_placeRefusal, h]
  exact congrArg (fun a => Host.Outcome.next (State.respond _ _ a)) answer

end

/-! ### The checks of PLACE (R42) -/

section
variable {s : State} {id : Ident} {pos : StorePos} {c : Coil}

/-- The first check of PLACE: the unit is not in mode RUN. -/
theorem State.placeRefusal_wrongMode (hm : s.port.mode = .run) :
    s.placeRefusal id pos c = some (Answer.refuse .wrongMode) := by
  simp [State.placeRefusal, hm]

variable (hm : ¬ s.port.mode = .run)
include hm

/-- The second check of PLACE: the identifier's form. -/
theorem State.placeRefusal_badIdent (hid : identOk id = false) : s.placeRefusal id pos c = some (Answer.refuse .badIdent) := by
  simp [State.placeRefusal, hm, hid]

variable (hid : identOk id = true)
include hid

/-- The third check of PLACE: the ranges of the descriptive fields. -/
theorem State.placeRefusal_outOfRange {f : FieldName} (hw : fieldOutOfRange c.recorded c.diameter c.width c.cls = some f) :
    s.placeRefusal id pos c = some (Answer.refuseItem .outOfRange (.field f)) := by
  simp [State.placeRefusal, hm, hid, hw]

variable (hw : fieldOutOfRange c.recorded c.diameter c.width c.cls = none)
include hw

/-- The fourth check of PLACE: the place is defined. -/
theorem State.placeRefusal_unknown (hx : s.findPlace pos.ref = none) :
    s.placeRefusal id pos c = some (Answer.refuse .unknown) := by
  simp [State.placeRefusal, hm, hid, hw, hx]

/-- The last four checks of PLACE, at a defined place: the identifier is new, the place is FREE and not blocked, the coil fits it,
and the table has room. -/
theorem State.placeRefusal_defined {x : Place} (hx : s.findPlace pos.ref = some x) :
    s.placeRefusal id pos c =
      if (s.findCoil id).isSome = true then some (Answer.refuse .duplicate)
      else if x.state ≠ .free ∨ x.blocked = true then some (Answer.refuse .placeBusy)
      else if s.fits none pos.ref c = false then some (Answer.refuse .unfit)
      else if 2048 ≤ s.coils.length then some (Answer.refuse .tableFull)
      else none := by
  simp [State.placeRefusal, hm, hid, hw, hx, State.placeOpen_eq_false_iff hx, State.coilExists]

end

end Sys2Proof.Machine

namespace Sys2Proof.Proofs

open Sys2Proof Sys2Proof.Machine

/-- Settles O10: the checks of R42 one by one; where all pass, the record is the last of the table and its place is OCCUPIED. -/
theorem placeCreatesOrRefuses : Obligations.PlaceCreatesOrRefuses := by
  intro s q id pos w d b c be ho i coil hf
  have ranges : (500 ≤ w ∧ w ≤ 45000 ∧ 600 ≤ d ∧ d ≤ 2400 ∧ 500 ≤ b ∧ b ≤ 2200 ∧ 1 ≤ c ∧ c ≤ 8) ↔
      fieldOutOfRange w d b c = none := by
    simp only [fieldOutOfRange_eq_none_iff, and_assoc]
  by_cases hm : s.port.mode = .run
  · rw [if_pos hm]
    exact .of_refuse (exec_place_refused hf (State.placeRefusal_wrongMode hm))
  rw [if_neg hm]
  by_cases hid : identOk id = false
  · rw [if_pos hid]
    exact .of_refuse (exec_place_refused hf (State.placeRefusal_badIdent hm hid))
  rw [if_neg hid]
  rw [Bool.not_eq_false] at hid
  cases hw : fieldOutOfRange w d b c with
  | some f =>
    rw [if_pos (by simp [ranges, hw])]
    exact .of_refuseItem (exec_place_refused hf (State.placeRefusal_outOfRange hm hid hw))
  | none =>
    rw [if_neg (not_not.mpr (ranges.mpr hw))]
    cases hx : s.findPlace pos.ref with
    | none => exact .of_refuse (exec_place_refused hf (State.placeRefusal_unknown hm hid hw hx))
    | some x =>
      have checks := State.placeRefusal_defined (c := coil) hm hid hw hx
      dsimp only
      split_ifs at checks ⊢ with hdup
      · exact .of_refuse (exec_place_refused hf checks)
      · exact .of_refuse (exec_place_refused hf checks)
      · exact .of_refuse (exec_place_refused hf checks)
      · exact .of_refuse (exec_place_refused hf checks)
      · have answers := place_answers hf checks (by simpa using hdup)
        cases pos with
        | floor r g => exact answers
        | nest r u => exact answers

end Sys2Proof.Proofs
end

section
/-! PROOF. Changing places: what the one read of a place gives after one place or a list of places is changed, and what such a
change leaves as it was. -/

namespace Sys2Proof.Machine

/-! ### Reading a place after a change of places -/

/-- What a numbered list reads after a change of one item. -/
theorem nth?_modifyNth {α : Type} (l : List α) (k j : Nat) (f : α → α) :
    nth? (modifyNth l k f) j = (nth? l j).map (fun x => if j = k then f x else x) := by
  cases j with
  | zero => rfl
  | succ j =>
    cases k with
    | zero => simp [nth?, modifyNth]
    | succ k =>
      simp only [nth?, modifyNth, List.getElem?_modify, Nat.add_right_cancel_iff, eq_comm]
      rfl

/-- A change at another place changes nothing. -/
theorem map_ite_of_ne {j p : PlaceRef} (f : Place → Place) (h : j ≠ p) {o : Option Place} :
    o.map (fun x => if j = p then f x else x) = o := by
  simp [h]

section
variable (s : State) (f : Place → Place)

/-- What a saddle's record reads after a change of one saddle (R22). -/
theorem State.findSaddle_updPlace_entry (n j : Nat) :
    (s.updPlace (.entry n) f).findSaddle j
      = (s.findSaddle j).map (fun x => if j = n then { x with place := f x.place } else x) :=
  find_map_key (fun x : Saddle => x.cfg.num) (fun x => { x with place := f x.place }) (fun _ => rfl) s.store.saddles n j

/-- What a row's record reads after a change of one floor position (R21). -/
theorem State.findRow_updPlace_floor (r g j : Nat) :
    (s.updPlace (.floor r g) f).findRow j
      = (s.findRow j).map (fun x => if j = r then { x with floors := modifyNth x.floors g f } else x) :=
  find_map_key (fun x : Row => x.cfg.num) (fun x => { x with floors := modifyNth x.floors g f }) (fun _ => rfl) s.store.rows r j

/-- What a row's record reads after a change of one nest position (R21). -/
theorem State.findRow_updPlace_nest (r u j : Nat) :
    (s.updPlace (.nest r u) f).findRow j
      = (s.findRow j).map (fun x => if j = r then { x with nests := modifyNth x.nests u f } else x) :=
  find_map_key (fun x : Row => x.cfg.num) (fun x => { x with nests := modifyNth x.nests u f }) (fun _ => rfl) s.store.rows r j

/-- What a place reads after a change of one saddle. -/
theorem State.findPlace_updPlace_entry (n : Nat) (j : PlaceRef) :
    (s.updPlace (.entry n) f).findPlace j = (s.findPlace j).map (fun x => if j = .entry n then f x else x) := by
  cases j with
  | entry m =>
    simp only [State.findPlace, State.findSaddle_updPlace_entry, Option.map_map, PlaceRef.entry.injEq]
    exact congrArg (Option.map · _) (funext fun x => by by_cases h : m = n <;> simp [h])
  | floor | nest | cradle => exact (map_ite_of_ne f (by nofun)).symm

/-- What a place reads after a change of one floor position. -/
theorem State.findPlace_updPlace_floor (r g : Nat) (j : PlaceRef) :
    (s.updPlace (.floor r g) f).findPlace j = (s.findPlace j).map (fun x => if j = .floor r g then f x else x) := by
  cases j with
  | floor m k =>
    simp only [State.findPlace, State.findRow_updPlace_floor, Option.bind_map, Option.map_bind, PlaceRef.floor.injEq]
    exact congrArg _ (funext fun x => by by_cases h : m = r <;> simp [h, nth?_modifyNth])
  | nest m k =>
    simp only [State.findPlace, State.findRow_updPlace_floor, Option.bind_map, Option.map_bind]
    exact congrArg _ (funext fun x => by by_cases h : m = r <;> simp [h])
  | entry | cradle => exact (map_ite_of_ne f (by nofun)).symm

/-- What a place reads after a change of one nest position. -/
theorem State.findPlace_updPlace_nest (r u : Nat) (j : PlaceRef) :
    (s.updPlace (.nest r u) f).findPlace j = (s.findPlace j).map (fun x => if j = .nest r u then f x else x) := by
  cases j with
  | floor m k =>
    simp only [State.findPlace, State.findRow_updPlace_nest, Option.bind_map, Option.map_bind]
    exact congrArg _ (funext fun x => by by_cases h : m = r <;> simp [h])
  | nest m k =>
    simp only [State.findPlace, State.findRow_updPlace_nest, Option.bind_map, Option.map_bind, PlaceRef.nest.injEq]
    exact congrArg _ (funext fun x => by by_cases h : m = r <;> simp [h, nth?_modifyNth])
  | entry | cradle => exact (map_ite_of_ne f (by nofun)).symm

/-- What a place reads after a change of one cradle. -/
theorem State.findPlace_updPlace_cradle (b k : Nat) (j : PlaceRef) :
    (s.updPlace (.cradle b k) f).findPlace j = (s.findPlace j).map (fun x => if j = .cradle b k then f x else x) := by
  cases j with
  | cradle m n =>
    have bay := s.findBay_updBay b m (fun x => { x with cradles := modifyNth x.cradles k f }) (fun _ => rfl)
    simp only [State.findPlace, State.updPlace, bay, Option.bind_map, Option.map_bind, PlaceRef.cradle.injEq]
    exact congrArg _ (funext fun x => by by_cases h : m = b <;> simp [h, nth?_modifyNth])
  | entry | floor | nest => exact (map_ite_of_ne f (by nofun)).symm

/-- What a place reads after a change of one place: the place named is changed, every other reads as before. -/
theorem State.findPlace_updPlace (p j : PlaceRef) :
    (s.updPlace p f).findPlace j = (s.findPlace j).map (fun x => if j = p then f x else x) := by
  cases p with
  | entry n => exact s.findPlace_updPlace_entry f n j
  | floor r g => exact s.findPlace_updPlace_floor f r g j
  | nest r u => exact s.findPlace_updPlace_nest f r u j
  | cradle b k => exact s.findPlace_updPlace_cradle f b k j

end

/-- What a place reads after each place of a list takes the same change, one that changes nothing more when made again. -/
theorem State.findPlace_foldl_updPlace {f : Place → Place} (hf : ∀ x, f (f x) = f x) (l : List PlaceRef) (s : State)
    (j : PlaceRef) :
    (l.foldl (fun s p => s.updPlace p f) s).findPlace j = (s.findPlace j).map (fun x => if j ∈ l then f x else x) := by
  induction l generalizing s with
  | nil => simp
  | cons p l ih =>
    rw [List.foldl_cons, ih, State.findPlace_updPlace, Option.map_map]
    refine congrArg (Option.map · _) (funext fun x => ?_)
    by_cases hp : j = p <;> by_cases hl : j ∈ l <;> simp [hp, hl, hf]

/-! ### What a change of places leaves as it was -/

/-- The second state is the first with places changed: the same rows, saddles and bays, and nothing else touched. -/
structure State.OnlyPlaces (s u : State) : Prop where
  rest : u = { s with store := u.store, bays := u.bays }
  bays : u.bays.map (fun x => { x with cradles := [] }) = s.bays.map (fun x => { x with cradles := [] })
  rows : u.store.rows.map Row.cfg = s.store.rows.map Row.cfg
  saddles : u.store.saddles.map Saddle.cfg = s.store.saddles.map Saddle.cfg

theorem State.OnlyPlaces.refl (s : State) : s.OnlyPlaces s := ⟨rfl, rfl, rfl, rfl⟩

theorem State.OnlyPlaces.trans {s t u : State} (h : s.OnlyPlaces t) (h' : t.OnlyPlaces u) : s.OnlyPlaces u where
  rest := h'.rest.trans (by rw [h.rest])
  bays := h'.bays.trans h.bays
  rows := h'.rows.trans h.rows
  saddles := h'.saddles.trans h.saddles

/-- Where places alone change, the lamps still show their aspects (R158). -/
theorem State.OnlyPlaces.lampsShow {s u : State} (h : s.OnlyPlaces u) (hs : s.LampsShow) : u.LampsShow := by
  intro y hy
  have hy' : { y with cradles := [] } ∈ s.bays.map (fun x => { x with cradles := [] }) := h.bays ▸ List.mem_map_of_mem hy
  obtain ⟨x, hx, hxy⟩ := List.mem_map.mp hy'
  have lamp : x.lamp = y.lamp := (congrArg Bay.lamp hxy :)
  have presence : x.presence = y.presence := (congrArg Bay.presence hxy :)
  have phase : x.phase = y.phase := (congrArg Bay.phase hxy :)
  rw [← lamp, ← presence, ← phase]
  exact hs x hx

/-- A list read by what an update of some of its items keeps reads the same after the update. -/
theorem map_map_ite_of_keeps {α β : Type} {c : α → Prop} [DecidablePred c] {f : α → α} {key : α → β} {l : List α}
    (h : ∀ x ∈ l, key (f x) = key x) : (l.map (fun x => if c x then f x else x)).map key = l.map key := by
  rw [List.map_map]
  exact List.map_congr_left fun x hx => by by_cases hc : c x <;> simp [hc, h x hx]

/-- The change of one place changes that place alone; the lamp written with a cradle is the one that stands (R158). -/
theorem State.updPlace_onlyPlaces {s : State} (hs : s.LampsShow) (p : PlaceRef) (f : Place → Place) :
    s.OnlyPlaces (s.updPlace p f) := by
  cases p with
  | entry n => exact ⟨rfl, rfl, rfl, map_map_ite_of_keeps fun _ _ => rfl⟩
  | floor r g => exact ⟨rfl, rfl, map_map_ite_of_keeps fun _ _ => rfl, rfl⟩
  | nest r u => exact ⟨rfl, rfl, map_map_ite_of_keeps fun _ _ => rfl, rfl⟩
  | cradle b k => exact ⟨rfl, map_map_ite_of_keeps fun x hx => by simp [← hs x hx], rfl, rfl⟩

/-- The change of each place of a list changes those places alone. -/
theorem State.foldl_updPlace_onlyPlaces (f : Place → Place) (l : List PlaceRef) {s : State} (hs : s.LampsShow) :
    s.OnlyPlaces (l.foldl (fun s p => s.updPlace p f) s) := by
  induction l generalizing s with
  | nil => exact .refl s
  | cons p l ih =>
    have first := State.updPlace_onlyPlaces hs p f
    exact first.trans (ih (first.lampsShow hs))

end Sys2Proof.Machine
end

section
/-! PROOF. BLOCK and UNBLOCK (chapter 2): the places they name, what they do where these are defined and where not, and the
statement O12. -/

namespace Sys2Proof.Machine

/-! ### The places BLOCK and UNBLOCK name (R41) -/

/-- The items of a numbered list have the numbers from 1 to its length. -/
theorem isSome_nth?_iff {α : Type} (l : List α) (k : Nat) : (nth? l k).isSome = true ↔ ∃ i < l.length, i + 1 = k := by
  cases k <;> simp [nth?]

theorem Row.floor_mem_places_iff (row : Row) (r g : Nat) :
    .floor r g ∈ row.places ↔ row.cfg.num = r ∧ (nth? row.floors g).isSome = true := by
  simp [Row.places, isSome_nth?_iff, and_left_comm]

theorem Row.nest_mem_places_iff (row : Row) (r u : Nat) :
    .nest r u ∈ row.places ↔ row.cfg.num = r ∧ (nth? row.nests u).isSome = true := by
  simp [Row.places, isSome_nth?_iff, and_left_comm]

/-- Whether what BLOCK names covers a place: that place, or a floor or nest position of that row (R41). -/
def namesPlace : BlockTarget → PlaceRef → Bool
  | .place p', p => p == p'
  | .row r, .floor r' _ => r == r'
  | .row r, .nest r' _ => r == r'
  | .row _, _ => false

/-- A row found has the number looked for. -/
theorem State.num_of_findRow {s : State} {r : Nat} {row : Row} (h : s.findRow r = some row) : row.cfg.num = r := by
  simpa using List.find?_some h

/-- Of the places defined, BLOCK and UNBLOCK act on exactly those named (R41). -/
theorem State.mem_blockPlaces_iff {s : State} {what : BlockTarget} {l : List PlaceRef} {p : PlaceRef} {x : Place}
    (hl : s.blockPlaces what = some l) (hp : s.findPlace p = some x) : p ∈ l ↔ namesPlace what p = true := by
  cases what with
  | place p' =>
    obtain ⟨_, _, rfl⟩ := Option.map_eq_some_iff.mp hl
    simp [namesPlace]
  | row r =>
    obtain ⟨row, hrow, rfl⟩ := Option.map_eq_some_iff.mp hl
    have num := State.num_of_findRow hrow
    cases p with
    | floor r' g =>
      have inRow (h : r = r') : nth? row.floors g = some x := by simpa [State.findPlace, ← h, hrow] using hp
      simpa [namesPlace, Row.floor_mem_places_iff, num] using fun h => by simp [inRow h]
    | nest r' u =>
      have inRow (h : r = r') : nth? row.nests u = some x := by simpa [State.findPlace, ← h, hrow] using hp
      simpa [namesPlace, Row.nest_mem_places_iff, num] using fun h => by simp [inRow h]
    | entry | cradle => simp [namesPlace, Row.places]

/-! ### What BLOCK and UNBLOCK do -/

@[simp] theorem State.taking_blockPlaces (s : State) (what : BlockTarget) : s.taking.blockPlaces what = s.blockPlaces what := by
  cases what <;> rfl

/-- What is not defined has no places to act on. -/
theorem State.blockPlaces_eq_none_iff (s : State) (what : BlockTarget) :
    s.blockPlaces what = none ↔
      (match what with | .place p => (s.findPlace p).isNone | .row r => (s.findRow r).isNone) = true := by
  cases what <;> simp [State.blockPlaces]

/-- BLOCK and UNBLOCK are one request that sets and clears the mark. -/
theorem exec_block_or_unblock (s : State) (q : Nat) (what : BlockTarget) (mark : Bool) :
    exec (if mark then .block q what else .unblock q what) s =
      s.serve (if mark then .block q what else .unblock q what) (fun s => s.markBlocked what mark) := by
  cases mark <;> rfl

section
variable {s : State} {q : Nat} {what : BlockTarget} {mark : Bool} (hf : s.fresh (if mark then .block q what else .unblock q what))
include hf

/-- A BLOCK or UNBLOCK of what is not defined is refused. -/
theorem mark_refused (h : s.blockPlaces what = none) : Refused (if mark then .block q what else .unblock q what) s .unknown := by
  refine .of_refuse ?_
  rw [exec_block_or_unblock, State.serve_taking hf]
  simp [State.markBlocked, h, orUnknown]

/-- A BLOCK or UNBLOCK of what is defined marks each place of it. -/
theorem mark_answers {l : List PlaceRef} (h : s.blockPlaces what = some l) :
    Answers (if mark then .block q what else .unblock q what) s
      (l.foldl (fun s p => s.updPlace p (fun x => { x with blocked := mark })) s.taking) .none := by
  rw [Answers, exec_block_or_unblock, State.serve_taking hf]
  simp [State.markBlocked, h, orUnknown]

end

end Sys2Proof.Machine

namespace Sys2Proof.Proofs

open Sys2Proof Sys2Proof.Machine

/-- Settles O12: the places acted on are those named, each takes the mark, and marking places changes nothing but places. -/
theorem blockMarksExactlyWhatIsNamed : Obligations.BlockMarksExactlyWhatIsNamed := by
  intro s q what mark i named hf hs
  cases hl : s.blockPlaces what with
  | none =>
    have undefined := (s.blockPlaces_eq_none_iff what).mp hl
    exact (if_pos undefined).mpr (mark_refused hf hl)
  | some l =>
    have defined := mt (s.blockPlaces_eq_none_iff what).mpr (by simp [hl])
    refine (if_neg defined).mpr ?_
    have places := State.foldl_updPlace_onlyPlaces (fun x => { x with blocked := mark }) l (s := s.taking) hs
    refine ⟨_, mark_answers hf hl, fun p => ?_, places.rest, places.bays, places.rows, places.saddles⟩
    have names : named p = namesPlace what p := by cases what <;> cases p <;> rfl
    rw [State.findPlace_foldl_updPlace (f := fun x => { x with blocked := mark }) (fun _ => rfl), names]
    exact Option.map_congr fun x hx => by simp only [State.mem_blockPlaces_iff hl hx]

end Sys2Proof.Proofs
end
